-- ==== Sys2Proof/Word.lean ====
section
/-! DEFINITION. The word types of the TEA5767 register codec block, over the widths of 00_scope.md R5: a
byte, the 40-bit command word (30_encoding.md R111), the PLL word (00_scope.md R8), the frequency and channel
operands, the signal level, the 32-bit result value (R113), and the five-byte image that TX and RX both are
(10_state.md R20). Bit i has weight 2^i (00_scope.md R7), which is BitVec's own numbering. -/

namespace Sys2Proof

namespace Config

/-- PLL_W (00_scope.md R5): width of the PLL word. -/
@[simp] abbrev pllW : Nat := 14

/-- LEVEL_W (00_scope.md R5): width of the signal-level field. -/
@[simp] abbrev levelW : Nat := 4

/-- FREQ_ARG_W (00_scope.md R5): width of an unsigned frequency operand, hertz. -/
@[simp] abbrev freqArgW : Nat := 28

/-- FREQ_W (00_scope.md R5): width of a signed frequency held in state or returned, hertz. -/
@[simp] abbrev freqW : Nat := 32

/-- CHAN_W (00_scope.md R5): width of the unsigned channel operand. -/
@[simp] abbrev chanW : Nat := 10

end Config

/-- A byte, bit 7 most significant (00_scope.md R7). -/
abbrev Byte := BitVec 8

/-- The 40-bit command word: op in bits 39:32, arg in bits 31:0 (30_encoding.md R111). -/
abbrev CmdWord := BitVec 40

/-- The 32-bit argument of a command word (30_encoding.md R111). -/
abbrev Arg := BitVec 32

/-- A `u14`, the PLL word (00_scope.md R8). -/
abbrev PllWord := BitVec Config.pllW

/-- A `u4`, a signal level (00_scope.md R8). -/
abbrev Level := BitVec Config.levelW

/-- The unsigned frequency operand F, hertz (00_scope.md R5, 30_encoding.md R104). -/
abbrev FreqArg := BitVec Config.freqArgW

/-- A signed frequency as state and results hold it, hertz in two's complement (00_scope.md R5, R8). -/
abbrev Freq := BitVec Config.freqW

/-- The unsigned channel operand C (00_scope.md R5, 30_encoding.md R104). -/
abbrev ChanArg := BitVec Config.chanW

/-- The 32-bit result value `val` (30_encoding.md R113). -/
abbrev Val := BitVec 32

/-- The five fault bits, as FAULT and `res` hold them (10_state.md R33, 30_encoding.md R113). -/
abbrev FaultBits := BitVec 5

/-- A five-byte image, index 0 first (10_state.md R20). TX and RX are each one. -/
structure Image where
  b0 : Byte
  b1 : Byte
  b2 : Byte
  b3 : Byte
  b4 : Byte
deriving DecidableEq, Repr

end Sys2Proof
end

