-- ==== Sys2Proof/Syntax.lean ====
section
/-! DEFINITION. The commands of the block: one constructor per row of spec/opcode_table.json
(30_encoding.md R114), its operands as the operand table R112 gives them. A 1-bit V or M operand is a Bool
(1 is true), a side operand a `Side`, the direction operand U a `Direction`; F, W, C and the 2-bit V stay
bit vectors. -/

namespace Sys2Proof

/-- An injection side; as a bit HIGH is 1 and LOW is 0 (30_encoding.md R100). -/
inductive Side where
  | low
  | high
deriving DecidableEq, Repr

/-- A search direction; as a bit up is 1 and down is 0 (30_encoding.md R102, R111). -/
inductive Direction where
  | down
  | up
deriving DecidableEq, Repr

/-- The 75 commands (30_encoding.md R114). -/
inductive Instr where
  /-- SET_MUTE, op 0x00 (R131). -/
  | setMute (v : Bool)
  /-- SET_SEARCH_MODE, op 0x01 (R132). -/
  | setSearchMode (v : Bool)
  /-- SET_PLL, op 0x02 (R133). -/
  | setPll (w : PllWord)
  /-- SET_SEARCH_DIR, op 0x03 (R134). -/
  | setSearchDir (v : Bool)
  /-- SET_STOP_LEVEL, op 0x04 (R135). -/
  | setStopLevel (l : BitVec 2)
  /-- SET_INJ_SIDE, op 0x05 (R136). -/
  | setInjSide (v : Bool)
  /-- SET_FORCED_MONO, op 0x06 (R137). -/
  | setForcedMono (v : Bool)
  /-- SET_MUTE_RIGHT, op 0x07 (R138). -/
  | setMuteRight (v : Bool)
  /-- SET_MUTE_LEFT, op 0x08 (R139). -/
  | setMuteLeft (v : Bool)
  /-- SET_AUX1, op 0x09 (R140). -/
  | setAux1 (v : Bool)
  /-- SET_AUX2, op 0x0A (R141). -/
  | setAux2 (v : Bool)
  /-- SET_STANDBY, op 0x0B (R142). -/
  | setStandby (v : Bool)
  /-- SET_BAND, op 0x0C (R143). -/
  | setBand (v : Bool)
  /-- SET_XTAL, op 0x0D (R144). -/
  | setXtal (v : Bool)
  /-- SET_SOFT_MUTE, op 0x0E (R145). -/
  | setSoftMute (v : Bool)
  /-- SET_HCC, op 0x0F (R146). -/
  | setHcc (v : Bool)
  /-- SET_SNC, op 0x10 (R147). -/
  | setSnc (v : Bool)
  /-- SET_SEARCH_IND, op 0x11 (R148). -/
  | setSearchInd (v : Bool)
  /-- SET_PLL_REF, op 0x12 (R149). -/
  | setPllRef (v : Bool)
  /-- SET_DEEMPH, op 0x13 (R150). -/
  | setDeemph (v : Bool)
  /-- GET_MUTE, op 0x20 (R161). -/
  | getMute
  /-- GET_SEARCH_MODE, op 0x21 (R162). -/
  | getSearchMode
  /-- GET_PLL, op 0x22 (R163). -/
  | getPll
  /-- GET_SEARCH_DIR, op 0x23 (R164). -/
  | getSearchDir
  /-- GET_STOP_LEVEL, op 0x24 (R165). -/
  | getStopLevel
  /-- GET_INJ_SIDE, op 0x25 (R166). -/
  | getInjSide
  /-- GET_FORCED_MONO, op 0x26 (R167). -/
  | getForcedMono
  /-- GET_MUTE_RIGHT, op 0x27 (R168). -/
  | getMuteRight
  /-- GET_MUTE_LEFT, op 0x28 (R169). -/
  | getMuteLeft
  /-- GET_AUX1, op 0x29 (R170). -/
  | getAux1
  /-- GET_AUX2, op 0x2A (R171). -/
  | getAux2
  /-- GET_STANDBY, op 0x2B (R172). -/
  | getStandby
  /-- GET_BAND, op 0x2C (R173). -/
  | getBand
  /-- GET_XTAL, op 0x2D (R174). -/
  | getXtal
  /-- GET_SOFT_MUTE, op 0x2E (R175). -/
  | getSoftMute
  /-- GET_HCC, op 0x2F (R176). -/
  | getHcc
  /-- GET_SNC, op 0x30 (R177). -/
  | getSnc
  /-- GET_SEARCH_IND, op 0x31 (R178). -/
  | getSearchInd
  /-- GET_PLL_REF, op 0x32 (R179). -/
  | getPllRef
  /-- GET_DEEMPH, op 0x33 (R180). -/
  | getDeemph
  /-- GETRX_READY, op 0x40 (R181). -/
  | getrxReady
  /-- GETRX_BAND_LIMIT, op 0x41 (R182). -/
  | getrxBandLimit
  /-- GETRX_LEVEL, op 0x42 (R183). -/
  | getrxLevel
  /-- GETRX_PLL, op 0x43 (R184). -/
  | getrxPll
  /-- GETST_MUTED, op 0x48 (R185). -/
  | getstMuted
  /-- GETST_MUTED_LEFT, op 0x49 (R186). -/
  | getstMutedLeft
  /-- GETST_MUTED_RIGHT, op 0x4A (R187). -/
  | getstMutedRight
  /-- GETST_SOFT_MUTED, op 0x4B (R188). -/
  | getstSoftMuted
  /-- GETST_HCC, op 0x4C (R189). -/
  | getstHcc
  /-- GETST_SNC, op 0x4D (R190). -/
  | getstSnc
  /-- GETST_STANDBY, op 0x4E (R191). -/
  | getstStandby
  /-- GETST_FORCED_MONO, op 0x4F (R192). -/
  | getstForcedMono
  /-- GETST_SIDE, op 0x50 (R193). -/
  | getstSide
  /-- GETST_FREQ, op 0x51 (R194). -/
  | getstFreq
  /-- GETST_FAULT, op 0x52 (R195). -/
  | getstFault
  /-- ENCODE_FREQ, op 0x60 (R203). -/
  | encodeFreq (f : FreqArg) (s : Side)
  /-- DECODE_FREQ, op 0x61 (R204). -/
  | decodeFreq (w : PllWord) (s : Side)
  /-- TRANSMIT, op 0x70 (R221). -/
  | transmit
  /-- RECEIVE_STATUS, op 0x71 (R223). -/
  | receiveStatus
  /-- SELECT_FREQUENCY, op 0x80 (R244). -/
  | selectFrequency (f : FreqArg) (m : Bool)
  /-- SELECT_CHANNEL, op 0x81 (R246). -/
  | selectChannel (c : ChanArg) (m : Bool)
  /-- DETERMINE_INJECTION_SIDE, op 0x82 (R242). -/
  | determineInjectionSide (f : FreqArg)
  /-- SEARCH, op 0x83 (R250). -/
  | search (d : Direction) (m : Bool)
  /-- SEARCH_FROM, op 0x84 (R256). -/
  | searchFrom (f : FreqArg) (m : Bool)
  /-- SEARCH_FROM_BEGINNING, op 0x85 (R258). -/
  | searchFromBeginning (m : Bool)
  /-- SEARCH_FROM_END, op 0x86 (R259). -/
  | searchFromEnd (m : Bool)
  /-- LOAD_FREQUENCY, op 0x87 (R240). -/
  | loadFrequency
  /-- TOGGLE_MUTE, op 0x90 (R281). -/
  | toggleMute
  /-- TOGGLE_MUTE_LEFT, op 0x91 (R282). -/
  | toggleMuteLeft
  /-- TOGGLE_MUTE_RIGHT, op 0x92 (R283). -/
  | toggleMuteRight
  /-- TOGGLE_SOFT_MUTE, op 0x93 (R284). -/
  | toggleSoftMute
  /-- TOGGLE_STANDBY, op 0x94 (R285). -/
  | toggleStandby
  /-- TOGGLE_FORCED_MONO, op 0x95 (R286). -/
  | toggleForcedMono
  /-- TOGGLE_HCC, op 0x96 (R287). -/
  | toggleHcc
  /-- TOGGLE_SNC, op 0x97 (R288). -/
  | toggleSnc
deriving DecidableEq, Repr

end Sys2Proof
end

