-- ==== Sys2Proof/WellFormed.lean ====
section
/-! DEFINITION. Which commands the command word can legally carry. Every operand type is exactly as wide
as its field (30_encoding.md R111, R112), so one check is left: the reserved stop-level code. -/

namespace Sys2Proof

/-- SET_STOP_LEVEL's code 0 is reserved and refused (30_encoding.md R101, R115; 40_codec_setters.md R135). -/
def stopLevelLegal (l : BitVec 2) : Bool := l != 0

/-- A command is well formed when its operands are legal values of their fields (30_encoding.md R112). -/
def Instr.wf : Instr → Bool
  | .setStopLevel l => stopLevelLegal l
  | .setMute _ | .setSearchMode _ | .setPll _ | .setSearchDir _ | .setInjSide _ | .setForcedMono _
  | .setMuteRight _ | .setMuteLeft _ | .setAux1 _ | .setAux2 _ | .setStandby _ | .setBand _ | .setXtal _
  | .setSoftMute _ | .setHcc _ | .setSnc _ | .setSearchInd _ | .setPllRef _ | .setDeemph _ | .getMute
  | .getSearchMode | .getPll | .getSearchDir | .getStopLevel | .getInjSide | .getForcedMono | .getMuteRight
  | .getMuteLeft | .getAux1 | .getAux2 | .getStandby | .getBand | .getXtal | .getSoftMute | .getHcc
  | .getSnc | .getSearchInd | .getPllRef | .getDeemph | .getrxReady | .getrxBandLimit | .getrxLevel
  | .getrxPll | .getstMuted | .getstMutedLeft | .getstMutedRight | .getstSoftMuted | .getstHcc | .getstSnc
  | .getstStandby | .getstForcedMono | .getstSide | .getstFreq | .getstFault | .encodeFreq _ _
  | .decodeFreq _ _ | .transmit | .receiveStatus | .selectFrequency _ _ | .selectChannel _ _
  | .determineInjectionSide _ | .search _ _ | .searchFrom _ _ | .searchFromBeginning _ | .searchFromEnd _
  | .loadFrequency | .toggleMute | .toggleMuteLeft | .toggleMuteRight | .toggleSoftMute | .toggleStandby
  | .toggleForcedMono | .toggleHcc | .toggleSnc => true

end Sys2Proof
end

