-- ==== Sys2Proof/Decode.lean ====
section
/-! DEFINITION. From the 40-bit command word to a command and back (30_encoding.md R111 to R115). `op` is
checked first and `arg` second (R115): a reserved op is an IllegalCommand whatever arg holds; a 1 in a
must-be-zero bit of R112, or SET_STOP_LEVEL with V = 0, is an IllegalOperand. -/

namespace Sys2Proof

/-- Why a command word is refused (30_encoding.md R115; 60_exceptions.md R304, R306). -/
inductive DecodeError where
  /-- `op` is one of the 181 reserved values (60_exceptions.md R304). -/
  | illegalCommand
  /-- `op` is legal and `arg` is not (60_exceptions.md R306). -/
  | illegalOperand
deriving DecidableEq, Repr

/-- `op = cmd[39:32]` (30_encoding.md R111). -/
def CmdWord.op (w : CmdWord) : Byte := w.extractLsb' 32 8

/-- `arg = cmd[31:0]` (30_encoding.md R111). -/
def CmdWord.arg (w : CmdWord) : Arg := w.extractLsb' 0 32

/-- The word of an op and an arg (30_encoding.md R111). -/
def CmdWord.make (op : Byte) (arg : Arg) : CmdWord := op ++ arg

/-! The bits of sides and directions. -/

/-- The bit of a side (30_encoding.md R100). -/
def Side.bit : Side → Bool
  | .low => false
  | .high => true

/-- The side a bit names (30_encoding.md R100). -/
def Side.ofBit : Bool → Side
  | false => .low
  | true => .high

/-- The bit of a direction (30_encoding.md R102). -/
def Direction.bit : Direction → Bool
  | .down => false
  | .up => true

/-- The direction a bit names (30_encoding.md R102). -/
def Direction.ofBit : Bool → Direction
  | false => .down
  | true => .up

/-! The sub-fields of arg (30_encoding.md R111). -/

/-- `V = arg[0]` of a 1-bit setter. -/
def Arg.bitV (arg : Arg) : Bool := arg.getLsbD 0

/-- `V = arg[1:0]` of SET_STOP_LEVEL. -/
def Arg.levelV (arg : Arg) : BitVec 2 := arg.extractLsb' 0 2

/-- `W = arg[13:0]`. -/
def Arg.wordW (arg : Arg) : PllWord := arg.extractLsb' 0 Config.pllW

/-- `C = arg[9:0]`. -/
def Arg.chanC (arg : Arg) : ChanArg := arg.extractLsb' 0 Config.chanW

/-- `F = arg[27:0]`. -/
def Arg.freqF (arg : Arg) : FreqArg := arg.extractLsb' 0 Config.freqArgW

/-- `M = arg[28]`. -/
def Arg.flagM (arg : Arg) : Bool := arg.getLsbD 28

/-- `U = arg[29]`. -/
def Arg.dirU (arg : Arg) : Bool := arg.getLsbD 29

/-- The must-be-zero check (30_encoding.md R112, R115): `mbz` holds a 1 at every bit that must be zero. -/
def operandCheck (mbz arg : Arg) (i : Instr) : Except DecodeError Instr :=
  if arg &&& mbz = 0 then .ok i else .error .illegalOperand

/-! One decoder per row of the operand table 30_encoding.md R112; the mask is its "must be zero" column. -/

/-- Uses nothing: all of arg must be zero. -/
def takeNone (i : Instr) (arg : Arg) : Except DecodeError Instr := operandCheck 0xFFFFFFFF arg i

/-- Uses V = arg[0]. -/
def takeBit (k : Bool → Instr) (arg : Arg) : Except DecodeError Instr :=
  operandCheck 0xFFFFFFFE arg (k arg.bitV)

/-- Uses V = arg[1:0], and V must not be 0 (30_encoding.md R112, R115). -/
def takeLevel (k : BitVec 2 → Instr) (arg : Arg) : Except DecodeError Instr :=
  if stopLevelLegal arg.levelV then operandCheck 0xFFFFFFFC arg (k arg.levelV)
  else .error .illegalOperand

/-- Uses V = W = arg[13:0]. -/
def takeWord (k : PllWord → Instr) (arg : Arg) : Except DecodeError Instr :=
  operandCheck 0xFFFFC000 arg (k arg.wordW)

/-- Uses F and the side M. -/
def takeFreqSide (k : FreqArg → Side → Instr) (arg : Arg) : Except DecodeError Instr :=
  operandCheck 0xE0000000 arg (k arg.freqF (Side.ofBit arg.flagM))

/-- Uses W and the side M. -/
def takeWordSide (k : PllWord → Side → Instr) (arg : Arg) : Except DecodeError Instr :=
  operandCheck 0xEFFFC000 arg (k arg.wordW (Side.ofBit arg.flagM))

/-- Uses F and the flag M. -/
def takeFreqFlag (k : FreqArg → Bool → Instr) (arg : Arg) : Except DecodeError Instr :=
  operandCheck 0xE0000000 arg (k arg.freqF arg.flagM)

/-- Uses C and the flag M. -/
def takeChanFlag (k : ChanArg → Bool → Instr) (arg : Arg) : Except DecodeError Instr :=
  operandCheck 0xEFFFFC00 arg (k arg.chanC arg.flagM)

/-- Uses F. -/
def takeFreq (k : FreqArg → Instr) (arg : Arg) : Except DecodeError Instr :=
  operandCheck 0xF0000000 arg (k arg.freqF)

/-- Uses the direction U and the flag M. -/
def takeDirFlag (k : Direction → Bool → Instr) (arg : Arg) : Except DecodeError Instr :=
  operandCheck 0xCFFFFFFF arg (k (Direction.ofBit arg.dirU) arg.flagM)

/-- Uses the flag M. -/
def takeFlag (k : Bool → Instr) (arg : Arg) : Except DecodeError Instr :=
  operandCheck 0xEFFFFFFF arg (k arg.flagM)

/-- The opcode map 30_encoding.md R114; every other op is reserved (R115). -/
def decodeOp (op : Nat) (arg : Arg) : Except DecodeError Instr :=
  match op with
  | 0x00 => takeBit .setMute arg
  | 0x01 => takeBit .setSearchMode arg
  | 0x02 => takeWord .setPll arg
  | 0x03 => takeBit .setSearchDir arg
  | 0x04 => takeLevel .setStopLevel arg
  | 0x05 => takeBit .setInjSide arg
  | 0x06 => takeBit .setForcedMono arg
  | 0x07 => takeBit .setMuteRight arg
  | 0x08 => takeBit .setMuteLeft arg
  | 0x09 => takeBit .setAux1 arg
  | 0x0A => takeBit .setAux2 arg
  | 0x0B => takeBit .setStandby arg
  | 0x0C => takeBit .setBand arg
  | 0x0D => takeBit .setXtal arg
  | 0x0E => takeBit .setSoftMute arg
  | 0x0F => takeBit .setHcc arg
  | 0x10 => takeBit .setSnc arg
  | 0x11 => takeBit .setSearchInd arg
  | 0x12 => takeBit .setPllRef arg
  | 0x13 => takeBit .setDeemph arg
  | 0x20 => takeNone .getMute arg
  | 0x21 => takeNone .getSearchMode arg
  | 0x22 => takeNone .getPll arg
  | 0x23 => takeNone .getSearchDir arg
  | 0x24 => takeNone .getStopLevel arg
  | 0x25 => takeNone .getInjSide arg
  | 0x26 => takeNone .getForcedMono arg
  | 0x27 => takeNone .getMuteRight arg
  | 0x28 => takeNone .getMuteLeft arg
  | 0x29 => takeNone .getAux1 arg
  | 0x2A => takeNone .getAux2 arg
  | 0x2B => takeNone .getStandby arg
  | 0x2C => takeNone .getBand arg
  | 0x2D => takeNone .getXtal arg
  | 0x2E => takeNone .getSoftMute arg
  | 0x2F => takeNone .getHcc arg
  | 0x30 => takeNone .getSnc arg
  | 0x31 => takeNone .getSearchInd arg
  | 0x32 => takeNone .getPllRef arg
  | 0x33 => takeNone .getDeemph arg
  | 0x40 => takeNone .getrxReady arg
  | 0x41 => takeNone .getrxBandLimit arg
  | 0x42 => takeNone .getrxLevel arg
  | 0x43 => takeNone .getrxPll arg
  | 0x48 => takeNone .getstMuted arg
  | 0x49 => takeNone .getstMutedLeft arg
  | 0x4A => takeNone .getstMutedRight arg
  | 0x4B => takeNone .getstSoftMuted arg
  | 0x4C => takeNone .getstHcc arg
  | 0x4D => takeNone .getstSnc arg
  | 0x4E => takeNone .getstStandby arg
  | 0x4F => takeNone .getstForcedMono arg
  | 0x50 => takeNone .getstSide arg
  | 0x51 => takeNone .getstFreq arg
  | 0x52 => takeNone .getstFault arg
  | 0x60 => takeFreqSide .encodeFreq arg
  | 0x61 => takeWordSide .decodeFreq arg
  | 0x70 => takeNone .transmit arg
  | 0x71 => takeNone .receiveStatus arg
  | 0x80 => takeFreqFlag .selectFrequency arg
  | 0x81 => takeChanFlag .selectChannel arg
  | 0x82 => takeFreq .determineInjectionSide arg
  | 0x83 => takeDirFlag .search arg
  | 0x84 => takeFreqFlag .searchFrom arg
  | 0x85 => takeFlag .searchFromBeginning arg
  | 0x86 => takeFlag .searchFromEnd arg
  | 0x87 => takeNone .loadFrequency arg
  | 0x90 => takeNone .toggleMute arg
  | 0x91 => takeNone .toggleMuteLeft arg
  | 0x92 => takeNone .toggleMuteRight arg
  | 0x93 => takeNone .toggleSoftMute arg
  | 0x94 => takeNone .toggleStandby arg
  | 0x95 => takeNone .toggleForcedMono arg
  | 0x96 => takeNone .toggleHcc arg
  | 0x97 => takeNone .toggleSnc arg
  | _ => .error .illegalCommand

/-- The command a word stands for, or why it is refused (30_encoding.md R111, R115). -/
def decode (w : CmdWord) : Except DecodeError Instr := decodeOp w.op.toNat w.arg

/-! The encoder: the arg of each operand form (30_encoding.md R111). -/

def argNone : Arg := 0

def argBit (v : Bool) : Arg := (BitVec.ofBool v).setWidth 32

def argLevel (l : BitVec 2) : Arg := l.setWidth 32

def argWord (w : PllWord) : Arg := w.setWidth 32

/-- M at bit 28. -/
def argFlag (m : Bool) : Arg := (BitVec.ofBool m).setWidth 32 <<< 28

/-- U at bit 29 and M at bit 28. -/
def argDirFlag (d : Direction) (m : Bool) : Arg := (BitVec.ofBool d.bit).setWidth 32 <<< 29 ||| argFlag m

def argFreq (f : FreqArg) : Arg := f.setWidth 32

def argFreqFlag (f : FreqArg) (m : Bool) : Arg := argFlag m ||| f.setWidth 32

def argFreqSide (f : FreqArg) (s : Side) : Arg := argFreqFlag f s.bit

def argWordSide (w : PllWord) (s : Side) : Arg := argFlag s.bit ||| w.setWidth 32

def argChanFlag (c : ChanArg) (m : Bool) : Arg := argFlag m ||| c.setWidth 32

/-- The opcode of a command (30_encoding.md R114). -/
def Instr.opcode : Instr → Byte
  | .setMute _ => 0x00
  | .setSearchMode _ => 0x01
  | .setPll _ => 0x02
  | .setSearchDir _ => 0x03
  | .setStopLevel _ => 0x04
  | .setInjSide _ => 0x05
  | .setForcedMono _ => 0x06
  | .setMuteRight _ => 0x07
  | .setMuteLeft _ => 0x08
  | .setAux1 _ => 0x09
  | .setAux2 _ => 0x0A
  | .setStandby _ => 0x0B
  | .setBand _ => 0x0C
  | .setXtal _ => 0x0D
  | .setSoftMute _ => 0x0E
  | .setHcc _ => 0x0F
  | .setSnc _ => 0x10
  | .setSearchInd _ => 0x11
  | .setPllRef _ => 0x12
  | .setDeemph _ => 0x13
  | .getMute => 0x20
  | .getSearchMode => 0x21
  | .getPll => 0x22
  | .getSearchDir => 0x23
  | .getStopLevel => 0x24
  | .getInjSide => 0x25
  | .getForcedMono => 0x26
  | .getMuteRight => 0x27
  | .getMuteLeft => 0x28
  | .getAux1 => 0x29
  | .getAux2 => 0x2A
  | .getStandby => 0x2B
  | .getBand => 0x2C
  | .getXtal => 0x2D
  | .getSoftMute => 0x2E
  | .getHcc => 0x2F
  | .getSnc => 0x30
  | .getSearchInd => 0x31
  | .getPllRef => 0x32
  | .getDeemph => 0x33
  | .getrxReady => 0x40
  | .getrxBandLimit => 0x41
  | .getrxLevel => 0x42
  | .getrxPll => 0x43
  | .getstMuted => 0x48
  | .getstMutedLeft => 0x49
  | .getstMutedRight => 0x4A
  | .getstSoftMuted => 0x4B
  | .getstHcc => 0x4C
  | .getstSnc => 0x4D
  | .getstStandby => 0x4E
  | .getstForcedMono => 0x4F
  | .getstSide => 0x50
  | .getstFreq => 0x51
  | .getstFault => 0x52
  | .encodeFreq _ _ => 0x60
  | .decodeFreq _ _ => 0x61
  | .transmit => 0x70
  | .receiveStatus => 0x71
  | .selectFrequency _ _ => 0x80
  | .selectChannel _ _ => 0x81
  | .determineInjectionSide _ => 0x82
  | .search _ _ => 0x83
  | .searchFrom _ _ => 0x84
  | .searchFromBeginning _ => 0x85
  | .searchFromEnd _ => 0x86
  | .loadFrequency => 0x87
  | .toggleMute => 0x90
  | .toggleMuteLeft => 0x91
  | .toggleMuteRight => 0x92
  | .toggleSoftMute => 0x93
  | .toggleStandby => 0x94
  | .toggleForcedMono => 0x95
  | .toggleHcc => 0x96
  | .toggleSnc => 0x97

/-- The arg of a command (30_encoding.md R112). -/
def Instr.operandBits : Instr → Arg
  | .setMute v => argBit v
  | .setSearchMode v => argBit v
  | .setPll w => argWord w
  | .setSearchDir v => argBit v
  | .setStopLevel l => argLevel l
  | .setInjSide v => argBit v
  | .setForcedMono v => argBit v
  | .setMuteRight v => argBit v
  | .setMuteLeft v => argBit v
  | .setAux1 v => argBit v
  | .setAux2 v => argBit v
  | .setStandby v => argBit v
  | .setBand v => argBit v
  | .setXtal v => argBit v
  | .setSoftMute v => argBit v
  | .setHcc v => argBit v
  | .setSnc v => argBit v
  | .setSearchInd v => argBit v
  | .setPllRef v => argBit v
  | .setDeemph v => argBit v
  | .getMute => argNone
  | .getSearchMode => argNone
  | .getPll => argNone
  | .getSearchDir => argNone
  | .getStopLevel => argNone
  | .getInjSide => argNone
  | .getForcedMono => argNone
  | .getMuteRight => argNone
  | .getMuteLeft => argNone
  | .getAux1 => argNone
  | .getAux2 => argNone
  | .getStandby => argNone
  | .getBand => argNone
  | .getXtal => argNone
  | .getSoftMute => argNone
  | .getHcc => argNone
  | .getSnc => argNone
  | .getSearchInd => argNone
  | .getPllRef => argNone
  | .getDeemph => argNone
  | .getrxReady => argNone
  | .getrxBandLimit => argNone
  | .getrxLevel => argNone
  | .getrxPll => argNone
  | .getstMuted => argNone
  | .getstMutedLeft => argNone
  | .getstMutedRight => argNone
  | .getstSoftMuted => argNone
  | .getstHcc => argNone
  | .getstSnc => argNone
  | .getstStandby => argNone
  | .getstForcedMono => argNone
  | .getstSide => argNone
  | .getstFreq => argNone
  | .getstFault => argNone
  | .encodeFreq f s => argFreqSide f s
  | .decodeFreq w s => argWordSide w s
  | .transmit => argNone
  | .receiveStatus => argNone
  | .selectFrequency f m => argFreqFlag f m
  | .selectChannel c m => argChanFlag c m
  | .determineInjectionSide f => argFreq f
  | .search d m => argDirFlag d m
  | .searchFrom f m => argFreqFlag f m
  | .searchFromBeginning m => argFlag m
  | .searchFromEnd m => argFlag m
  | .loadFrequency => argNone
  | .toggleMute => argNone
  | .toggleMuteLeft => argNone
  | .toggleMuteRight => argNone
  | .toggleSoftMute => argNone
  | .toggleStandby => argNone
  | .toggleForcedMono => argNone
  | .toggleHcc => argNone
  | .toggleSnc => argNone

/-- The 40-bit word of a command (30_encoding.md R111). -/
def encode (i : Instr) : CmdWord := CmdWord.make i.opcode i.operandBits

/-- The instruction the decoder reads from the `nbits`-bit number `w`, numbered as spec/opcode_table.json
numbers it (bit 0 least significant; every row is 40 bits, so op is bits 39:32). -/
def decodeTableWord (nbits w : Nat) : Option Instr :=
  match decode (BitVec.ofNat 40 (w % 2 ^ nbits)) with
  | .ok i => some i
  | .error _ => none

end Sys2Proof
end

