-- ==== Sys2Proof/Config.lean ====
section
/-! DEFINITION. What an implementation fixes: the named constants of 00_scope.md R5 (its five
widths stand in Word.lean), the open parameter MAX_POLLS of R6, and the free values of the model (the bus's
answers, 20_memory.md R68) as constants without a body. A build's three open parameters are `Params` of
Machine/Reset.lean. -/

namespace Sys2Proof

/-- One answer of `BusRead`: 0 to 5 bytes, in order of arrival (20_memory.md R64). An answer longer than
five bytes cannot be written down (93_implementation_defined.md I10). -/
inductive BusData where
  | none
  | one (d0 : Byte)
  | two (d0 d1 : Byte)
  | three (d0 d1 d2 : Byte)
  | four (d0 d1 d2 d3 : Byte)
  | five (d0 d1 d2 d3 d4 : Byte)
deriving DecidableEq, Repr, Inhabited

/-- MAX_POLLS (00_scope.md R6): a positive integer or INF. `atMost e` is the integer e + 1, so a limit of
zero polls cannot be written down. -/
inductive PollLimit where
  | inf
  | atMost (extra : Nat)
deriving DecidableEq, Repr, Inhabited

namespace Config

/-- DEV_ADDR (00_scope.md R5): the device address handed to both bus primitives. -/
def devAddr : Nat := 0x60

/-- IMG_LEN (00_scope.md R5): bytes in an image and in a bus transaction. -/
def imgLen : Nat := 5

/-- SETTLE_MS (00_scope.md R5): the argument of `Delay` after every bus operation. -/
def settleMs : Nat := 100

/-- REF_HZ (00_scope.md R5): the reference frequency of the converter formula. -/
def refHz : Int := 32768

/-- IF_HZ (00_scope.md R5): the intermediate-frequency offset of the converter. -/
def ifHz : Int := 225000

/-- PLL_STEP_HZ (00_scope.md R5): one PLL step, REF_HZ / 4. -/
def pllStepHz : Int := refHz / 4

/-- PROBE_HZ (00_scope.md R5): the offset of the two injection probes. -/
def probeHz : Int := 450000

/-- NUDGE_HZ (00_scope.md R5): the offset SEARCH_FROM applies. -/
def nudgeHz : Int := 100000

/-- CH_BASE_HZ (00_scope.md R5): the frequency of channel CH_BASE_IDX. -/
def chBaseHz : Int := 87900000

/-- CH_BASE_IDX (00_scope.md R5). -/
def chBaseIdx : Int := 200

/-- CH_STEP_HZ (00_scope.md R5): the channel spacing. -/
def chStepHz : Int := 200000

/-- BAND_LO_HZ (00_scope.md R5): the start frequency of SEARCH_FROM_BEGINNING. -/
def bandLoHz : Int := 87000000

/-- BAND_HI_HZ (00_scope.md R5): the start frequency of SEARCH_FROM_END. -/
def bandHiHz : Int := 108000000

/-- MAX_POLLS (00_scope.md R6), an open parameter: no rule fixes its value, so this constant has no body
and a claim about it holds for every value. A build may choose it (`Params.maxPolls`). Log 6. -/
opaque maxPolls : PollLimit

/-- The free answer of bus transaction number `n` when it is a `BusWrite` and no scripted answer is left:
any bool (20_memory.md R68, 93_implementation_defined.md I6). No body. Log 5. -/
opaque busWriteAnswer : Nat → Bool

/-- The free answer of bus transaction number `n` when it is a `BusRead` and no scripted answer is left:
any 0 to 5 bytes (20_memory.md R68, 93_implementation_defined.md I7). No body. Log 5. -/
opaque busReadAnswer : Nat → BusData

end Config

end Sys2Proof
end

