-- ==== Sys2Proof/Machine/Reset.lean ====
section
/-! DEFINITION. The open parameters of 00_scope.md R6 and the reset values of the two images that depend on
them (10_state.md R48, 70_reset_and_hazards.md R340). -/

namespace Sys2Proof.Machine

/-- The open parameters of a block (00_scope.md R6), chosen at build time and fixed from then on
(70_reset_and_hazards.md R345 (3)). -/
structure Params where
  /-- RESET_SUD: TX[2] bit 7 after reset. -/
  resetSud : Bool
  /-- RESET_RX: RX after reset. -/
  resetRx : Image
  /-- MAX_POLLS where this build chooses it; otherwise it is the opaque `Config.maxPolls` (log 6). -/
  maxPolls : Option PollLimit
deriving DecidableEq, Repr

/-- MAX_POLLS of a build: its choice, or the open parameter (00_scope.md R6; log 6). -/
def pollLimitOf (p : Params) : PollLimit := p.maxPolls.getD Config.maxPolls

/-- TX after reset, RESET_SUD given (10_state.md R48): TX[2] is 0x30 or 0xB0. -/
def resetTx (sud : Bool) : Image :=
  { b0 := 0x00, b1 := 0x00, b2 := if sud then 0xB0 else 0x30, b3 := 0x10, b4 := 0x00 }

/-- RESET_SUD of the build `State.reset` stands for. DESIGN CHOICE (log 1, unsafe): the spec leaves it open
(R6). -/
def resetSud : Bool := false

/-- RESET_RX of the build `State.reset` stands for. DESIGN CHOICE (log 2, unsafe): the spec leaves it open
(R6). -/
def resetRx : Image := { b0 := 0x00, b1 := 0x00, b2 := 0x00, b3 := 0x00, b4 := 0x00 }

/-- The build `State.reset` stands for (logs 1, 2, 6): its MAX_POLLS stays open. -/
def resetParams : Params := { resetSud := resetSud, resetRx := resetRx, maxPolls := none }

end Sys2Proof.Machine
end

