-- ==== Sys2Proof/Machine/State.lean ====
section
/-! DEFINITION. The state of the block (10_state.md R20), the result it last returned (30_encoding.md R113),
the open parameters the block was built with (00_scope.md R6), and its environment: the host's inputs, the
bus's answers and the bus trace. The spec says that parameters and environment are not state of the block
(10_state.md R46, 00_scope.md R11); they stand here because a step of the model takes no other argument. -/

namespace Sys2Proof.Machine

/-- The sequencer state `phase` (10_state.md R45). -/
inductive Phase where
  /-- IDLE: no command runs; the next one is accepted. -/
  | idle
  /-- RUN: a command that has no table of its own is running. -/
  | run
  /-- P_HIGH: the injection-probe sequencer's high probe (44_tuning_search.md R243). -/
  | pHigh
  /-- P_LOW: its low probe. -/
  | pLow
  /-- P_CMP: its comparator. -/
  | pCmp
  /-- S_MUTE: the search sequencer mutes (44_tuning_search.md R251). -/
  | sMute
  /-- S_START: it transmits the search request. -/
  | sStart
  /-- S_POLL: it polls. -/
  | sPoll
  /-- S_LATCH: `ready` was seen. -/
  | sLatch
  /-- S_ABORT: the poll limit was reached. -/
  | sAbort
  /-- S_UNMUTE: it unmutes. -/
  | sUnmute
deriving DecidableEq, Repr

/-- One call of an external primitive, with its arguments and its answer (00_scope.md R9, R11). -/
inductive BusEvent where
  /-- `W[...]/ok` or `/fail`: `BusWrite(dev, 5, image)` answered `ok`. -/
  | write (dev : Nat) (image : Image) (ok : Bool)
  /-- `R/[...]`: `BusRead(dev, count)` answered `data`. -/
  | read (dev : Nat) (count : Nat) (data : BusData)
  /-- `D(ms)`: `Delay(ms)`. -/
  | delay (ms : Nat)
deriving DecidableEq, Repr

/-- What the host does at the block's pins during one step (30_encoding.md R110, 70_reset_and_hazards.md
R342; logs 8, 9). -/
inductive HostInput where
  /-- Nothing. -/
  | nothing
  /-- Presents this command word. -/
  | command (w : CmdWord)
  /-- Presents this command word, and asserts the hardware reset in the same step, after `calls` primitive
  calls of what then runs and at the latest before a result is returned. -/
  | commandCut (w : CmdWord) (calls : Nat)
  /-- Asserts the hardware reset after `calls` primitive calls of what runs: at once where nothing runs. -/
  | reset (calls : Nat)
deriving DecidableEq, Repr

/-- The result `(res, val)` a command returns (30_encoding.md R113). -/
structure Result where
  res : FaultBits
  val : Val
deriving DecidableEq, Repr

/-- Everything outside the block that a step reads or writes. The MODEL's own fields (logs 5, 8, 11). -/
structure Env where
  /-- What the host does, one input a step; past the list's end it does nothing (log 8). -/
  inputs : List HostInput
  /-- Answers of the `BusWrite` calls to come; past its end the answers are free (log 5). -/
  writeAnswers : List Bool
  /-- Answers of the `BusRead` calls to come; past its end the answers are free (log 5). -/
  readAnswers : List BusData
  /-- Bus transactions made so far: the index of the free answers (log 5). -/
  busCalls : Nat
  /-- The primitive calls made so far, oldest first (00_scope.md R11). -/
  trace : List BusEvent
deriving DecidableEq, Repr

/-- The state of the machine: 10_state.md R20's table, row by row, then the command port's result and the
running search's mute operand, then the open parameters and the environment. -/
structure State where
  /-- TransmissionImage TX[0..4] (10_state.md R21). -/
  tx : Image
  /-- ReceptionImage RX[0..4] (10_state.md R27). -/
  rx : Image
  muted : Bool
  mutedLeft : Bool
  mutedRight : Bool
  softMuted : Bool
  highCutControl : Bool
  stereoNoiseCancelling : Bool
  standby : Bool
  forcedMono : Bool
  /-- The currently selected injection side (10_state.md R31). -/
  side : Side
  /-- `freq_nom`, signed hertz in FREQ_W = 32 bits (10_state.md R32; log 12). -/
  freqNom : Freq
  /-- FAULT, the sticky flags (10_state.md R33). -/
  fault : FaultBits
  /-- Comparator latch `lev_hi` (10_state.md R34). -/
  levHi : Level
  /-- Comparator latch `lev_lo` (10_state.md R34). -/
  levLo : Level
  /-- Band-limit latch (10_state.md R35). -/
  blf : Bool
  /-- Poll counter (10_state.md R36). -/
  polls : Nat
  phase : Phase
  /-- `res` of the running or last command (30_encoding.md R113). -/
  res : FaultBits
  /-- What the last command returned; none while a command runs and after reset (log 4). -/
  result : Option Result
  /-- The operand m of the running SEARCH (10_state.md R46 (b); log 4). -/
  muteDuringSearch : Bool
  /-- The open parameters of the build (00_scope.md R6): no step changes them. -/
  params : Params
  env : Env
deriving DecidableEq, Repr

/-- Why the machine can stop. The block itself never stops: its five faults are flags (60_exceptions.md
R312), raised in next states. -/
inductive Fault where
  /-- Raised by `step` alone, in a state whose phase is neither IDLE nor S_POLL. No step leaves such a phase
  behind, so no run from reset reaches it. Safe: the model says nothing about such a state (log 10). -/
  | strayPhase (p : Phase)
deriving DecidableEq, Repr

/-- Why a command can be without a meaning. -/
inductive Refusal where
  /-- Raised by an arm of `exec` whose instruction has no meaning yet; no arm is such an arm. Safe. -/
  | notModelled (mnemonic : String)
deriving DecidableEq, Repr

/-- The environment of a machine nothing has happened to: no inputs, no scripted answers, and no bus call made
(70_reset_and_hazards.md R341). -/
def Env.fresh : Env :=
  { inputs := [], writeAnswers := [], readAnswers := [], busCalls := 0, trace := [] }

/-- The reset state of a block built with the open parameters `p` (10_state.md R48, 70_reset_and_hazards.md
R340). -/
def State.resetWith (p : Params) : State :=
  { tx := resetTx p.resetSud, rx := p.resetRx
    muted := false, mutedLeft := false, mutedRight := false, softMuted := false, highCutControl := false
    stereoNoiseCancelling := false, standby := false, forcedMono := false
    side := .high, freqNom := 0, fault := 0
    levHi := 0, levLo := 0, blf := false, polls := 0, phase := .idle
    res := 0, result := none, muteDuringSearch := false
    params := p, env := Env.fresh }

/-- The machine right after reset, with RESET_SUD and RESET_RX as logs 1 and 2 name them and MAX_POLLS open. -/
def State.reset : State := State.resetWith resetParams

end Sys2Proof.Machine
end

