-- ==== Sys2Proof/Machine/Flags.lean ====
section
/-! DEFINITION. The block's flags: the five fault flags (60_exceptions.md R300) and the one comparison
whose outcome steers a command, the signal-strength comparator (44_tuning_search.md R242). -/

namespace Sys2Proof.Machine

/-- The five faults (60_exceptions.md R300). -/
inductive FaultFlag where
  | busWriteFailed
  | busReadIncomplete
  | searchTimedOut
  | illegalCommand
  | illegalOperand
deriving DecidableEq, Repr

/-- The mask of a fault in `res` and FAULT (60_exceptions.md R300). -/
def FaultFlag.mask : FaultFlag → FaultBits
  | .busWriteFailed => 0b00001
  | .busReadIncomplete => 0b00010
  | .searchTimedOut => 0b00100
  | .illegalCommand => 0b01000
  | .illegalOperand => 0b10000

/-- The comparator's output "choose HIGH": strict, unsigned, 4 bits (44_tuning_search.md R242). -/
def chooseHigh (levHi levLo : Level) : Bool := levHi.ult levLo

/-- The side the comparator chooses; equal levels choose LOW (44_tuning_search.md R242). -/
def comparatorSide (levHi levLo : Level) : Side := if chooseHigh levHi levLo then .high else .low

end Sys2Proof.Machine
end

