-- ==== Sys2Proof/Machine/Operands.lean ====
section
/-! DEFINITION. Operand forms: the fields of the two images with their masks (30_encoding.md R90 to R92),
the packing of the PLL word (R103), the frequency and channel operands (R104), and the converter's two
functions (42_codec_frequency.md R201, R202). -/

namespace Sys2Proof

/-- Byte `i` of an image: TX[i] or RX[i]. -/
def Image.get (im : Image) : Fin 5 → Byte
  | 0 => im.b0
  | 1 => im.b1
  | 2 => im.b2
  | 3 => im.b3
  | 4 => im.b4

/-- The image with byte `i` replaced: TX[i] <- v. -/
def Image.set (im : Image) (i : Fin 5) (v : Byte) : Image :=
  match i with
  | 0 => { im with b0 := v }
  | 1 => { im with b1 := v }
  | 2 => { im with b2 := v }
  | 3 => { im with b3 := v }
  | 4 => { im with b4 := v }

/-- A bit as a byte of value 0 or 1, the `v` of the pseudocode's `v << k`. -/
def Byte.ofBit (v : Bool) : Byte := if v then 1 else 0

/-- A bit as a 32-bit value, `zext_32` of it. -/
def Val.ofBit (v : Bool) : Val := if v then 1 else 0

end Sys2Proof

namespace Sys2Proof.Machine

/-- A field of an image that lies in one byte: its byte, mask and shift (30_encoding.md R91). -/
structure FieldSpec where
  byte : Fin 5
  mask : Byte
  shift : Nat
deriving DecidableEq, Repr

/-- The generic field read of 30_encoding.md R91: `(TX[byte] & mask) >> shift`. -/
def readField (fld : FieldSpec) (im : Image) : Byte := (im.get fld.byte &&& fld.mask) >>> fld.shift

/-- The generic field write of 30_encoding.md R91: `(TX[byte] & ~mask) | ((v << shift) & mask)`. -/
def writeField (fld : FieldSpec) (v : Byte) (im : Image) : Image :=
  im.set fld.byte ((im.get fld.byte &&& ~~~fld.mask) ||| ((v <<< fld.shift) &&& fld.mask))

/-- A one-bit field as a Bool, 1 being true (10_state.md R30). -/
def readBit (fld : FieldSpec) (im : Image) : Bool := readField fld im != 0

/-- The write of a one-bit field. -/
def writeBit (fld : FieldSpec) (v : Bool) (im : Image) : Image := writeField fld (Byte.ofBit v) im

/-! The transmission image's fields (30_encoding.md R91), the PLL word apart. -/

def muteField : FieldSpec := { byte := 0, mask := 0x80, shift := 7 }
def searchModeField : FieldSpec := { byte := 0, mask := 0x40, shift := 6 }
def searchDirField : FieldSpec := { byte := 2, mask := 0x80, shift := 7 }
def stopLevelField : FieldSpec := { byte := 2, mask := 0x60, shift := 5 }
def injSideField : FieldSpec := { byte := 2, mask := 0x10, shift := 4 }
def forcedMonoField : FieldSpec := { byte := 2, mask := 0x08, shift := 3 }
def muteRightField : FieldSpec := { byte := 2, mask := 0x04, shift := 2 }
def muteLeftField : FieldSpec := { byte := 2, mask := 0x02, shift := 1 }
def aux1Field : FieldSpec := { byte := 2, mask := 0x01, shift := 0 }
def aux2Field : FieldSpec := { byte := 3, mask := 0x80, shift := 7 }
def standbyField : FieldSpec := { byte := 3, mask := 0x40, shift := 6 }
def bandField : FieldSpec := { byte := 3, mask := 0x20, shift := 5 }
def xtalField : FieldSpec := { byte := 3, mask := 0x10, shift := 4 }
def softMuteField : FieldSpec := { byte := 3, mask := 0x08, shift := 3 }
def hccField : FieldSpec := { byte := 3, mask := 0x04, shift := 2 }
def sncField : FieldSpec := { byte := 3, mask := 0x02, shift := 1 }
def searchIndField : FieldSpec := { byte := 3, mask := 0x01, shift := 0 }
def pllRefField : FieldSpec := { byte := 4, mask := 0x80, shift := 7 }
def deemphField : FieldSpec := { byte := 4, mask := 0x40, shift := 6 }

/-! The reception image's fields (30_encoding.md R92), the PLL word apart. -/

def readyField : FieldSpec := { byte := 0, mask := 0x80, shift := 7 }
def bandLimitField : FieldSpec := { byte := 0, mask := 0x40, shift := 6 }
def levelField : FieldSpec := { byte := 3, mask := 0xF0, shift := 4 }

/-- The `level` field of RX as a `u4` (30_encoding.md R92). -/
def rxLevel (im : Image) : Level := (readField levelField im).setWidth Config.levelW

/-- The PLL word of an image, TX's or RX's: `((b0 & 0x3F) << 8) | b1` (30_encoding.md R103). -/
def getPllWord (im : Image) : PllWord := ((im.b0 &&& 0x3F).setWidth Config.pllW <<< 8) ||| im.b1.setWidth Config.pllW

/-- `put_pll(w)` (30_encoding.md R103): both bytes at once, bits 7:6 of byte 0 preserved. -/
def putPllWord (w : PllWord) (im : Image) : Image :=
  { im with b0 := (im.b0 &&& 0xC0) ||| (w >>> 8).setWidth 8, b1 := w.setWidth 8 }

/-- LOAD_FREQUENCY's copy of the received PLL word into TX (44_tuning_search.md R240). -/
def copyPllWord (rx tx : Image) : Image :=
  { tx with b0 := (tx.b0 &&& 0xC0) ||| (rx.b0 &&& 0x3F), b1 := rx.b1 }

/-- The eight DriverState booleans (10_state.md R29). -/
inductive Mirror where
  | muted
  | mutedLeft
  | mutedRight
  | softMuted
  | highCutControl
  | stereoNoiseCancelling
  | standby
  | forcedMono
deriving DecidableEq, Repr

/-- The TX bit a boolean mirrors (10_state.md R29). -/
def Mirror.field : Mirror → FieldSpec
  | .muted => muteField
  | .mutedLeft => muteLeftField
  | .mutedRight => muteRightField
  | .softMuted => softMuteField
  | .highCutControl => hccField
  | .stereoNoiseCancelling => sncField
  | .standby => standbyField
  | .forcedMono => forcedMonoField

/-- A frequency operand F, zero-extended to a `freq` (30_encoding.md R104). -/
def freqOperand (f : FreqArg) : Int := f.toNat

/-- A channel operand's frequency (30_encoding.md R104, 44_tuning_search.md R246). -/
def channelHz (c : ChanArg) : Int :=
  Config.chBaseHz + ((c.toNat : Int) - Config.chBaseIdx) * Config.chStepHz

/-- The nudged frequency of SEARCH_FROM (44_tuning_search.md R256). -/
def nudgedHz (d : Direction) (f : Int) : Int :=
  match d with
  | .up => f + Config.nudgeHz
  | .down => f - Config.nudgeHz

/-- The numerator n of the encoder (42_codec_frequency.md R201). -/
def encNumerator (f : Int) (s : Side) : Int :=
  match s with
  | .high => f + Config.ifHz
  | .low => f - Config.ifHz

/-- The encoder's word before truncation, W = (n + 4096) div 8192, floor division
(42_codec_frequency.md R201). -/
def encUnwrapped (f : Int) (s : Side) : Int :=
  (encNumerator f s + Config.pllStepHz / 2) / Config.pllStepHz

/-- `enc(f, s) = W mod 16384` (42_codec_frequency.md R201). -/
def enc (f : Int) (s : Side) : PllWord := BitVec.ofInt Config.pllW (encUnwrapped f s)

/-- `dec(w, s)` (42_codec_frequency.md R202). -/
def dec (w : PllWord) (s : Side) : Int :=
  match s with
  | .high => (w.toNat : Int) * Config.pllStepHz - Config.ifHz
  | .low => (w.toNat : Int) * Config.pllStepHz + Config.ifHz

/-- A `freq` in FREQ_W = 32 bits of two's complement, `sext_32` (00_scope.md R9). -/
def sext32 (f : Int) : Freq := BitVec.ofInt Config.freqW f

end Sys2Proof.Machine
end

