-- ==== Sys2Proof/Machine/Ops.lean ====
section
/-! DEFINITION. The named operations every command is made of: raising a fault and refusing a command (the
block's whole exception handling, 60_exceptions.md R305, R312), accepting and returning
(30_encoding.md R110, R113), the bus primitives (00_scope.md R9), the writes of TX fields with their
mirrors (10_state.md R30, R31), and the hardware reset (70_reset_and_hazards.md R342). -/

namespace Sys2Proof.Machine

/-! ## Faults -/

/-- `raise F` (60_exceptions.md R312): the flag's bit in `res` and in FAULT, and nothing else. There is no
return from it (R314). -/
def State.raise (s : State) (flag : FaultFlag) : State :=
  { s with res := s.res ||| flag.mask, fault := s.fault ||| flag.mask }

/-! ## Acceptance and return -/

/-- A command is accepted: it runs, `res` is fresh (60_exceptions.md R314), and no result stands. -/
def State.accept (s : State) : State := { s with phase := .run, res := 0, result := none }

/-- A command returns `(res, val)` and the block is idle again (30_encoding.md R110, R113). -/
def State.returned (s : State) (val : Val) : State :=
  { s with phase := .idle, result := some { res := s.res, val := val } }

/-- The fault of a refused word (30_encoding.md R115). -/
def refusalFlag : DecodeError → FaultFlag
  | .illegalCommand => .illegalCommand
  | .illegalOperand => .illegalOperand

/-- Refusal (60_exceptions.md R305): the fault's bit, `val` = 0, nothing else. -/
def State.refuse (s : State) (e : DecodeError) : State := (s.accept.raise (refusalFlag e)).returned 0

/-! ## The bus primitives -/

/-- One primitive call is appended to the trace (00_scope.md R11). -/
def State.log (s : State) (e : BusEvent) : State :=
  { s with env := { s.env with trace := s.env.trace ++ [e] } }

/-- What the next `BusWrite` answers: the script's head, or a free value (20_memory.md R68; log 5). -/
def State.writeAnswer (s : State) : Bool :=
  match s.env.writeAnswers with
  | ok :: _ => ok
  | [] => Config.busWriteAnswer s.env.busCalls

/-- What the next `BusRead` answers: the script's head, or a free value (20_memory.md R68; log 5). -/
def State.readAnswer (s : State) : BusData :=
  match s.env.readAnswers with
  | d :: _ => d
  | [] => Config.busReadAnswer s.env.busCalls

/-- `BusWrite(0x60, 5, TX[0..4])`, index order (20_memory.md R60, R63, R64), answered by `writeAnswer`. -/
def State.busWrite (s : State) : State :=
  { s with env := { s.env with
      writeAnswers := s.env.writeAnswers.tail
      busCalls := s.env.busCalls + 1
      trace := s.env.trace ++ [.write Config.devAddr s.tx s.writeAnswer] } }

/-- `BusRead(0x60, 5)` (20_memory.md R60, R64), answered by `readAnswer`. -/
def State.busRead (s : State) : State :=
  { s with env := { s.env with
      readAnswers := s.env.readAnswers.tail
      busCalls := s.env.busCalls + 1
      trace := s.env.trace ++ [.read Config.devAddr Config.imgLen s.readAnswer] } }

/-- `Delay(100)` (20_memory.md R66). -/
def State.settle (s : State) : State := s.log (.delay Config.settleMs)

/-- The image a complete answer carries, byte 0 first (20_memory.md R63, R64). -/
def fullImage : BusData → Option Image
  | .five d0 d1 d2 d3 d4 => some { b0 := d0, b1 := d1, b2 := d2, b3 := d3, b4 := d4 }
  | .none | .one _ | .two _ _ | .three _ _ _ | .four _ _ _ _ => Option.none

/-- What RECEIVE_STATUS does with an answer (43_bus_session.md R223): all five bytes, or RX unchanged and
BusReadIncomplete. -/
def State.storeStatus (s : State) (d : BusData) : State :=
  match fullImage d with
  | some im => { s with rx := im }
  | none => s.raise .busReadIncomplete

/-- The procedure TRANSMIT (43_bus_session.md R221). -/
def State.transmit (s : State) : State :=
  (if s.writeAnswer then s.busWrite else s.busWrite.raise .busWriteFailed).settle

/-- The procedure RECEIVE_STATUS (43_bus_session.md R223). -/
def State.receiveStatus (s : State) : State := (s.busRead.storeStatus s.readAnswer).settle

/-! ## Writes of TX fields -/

/-- The write of a TX field that no DriverState value mirrors (40_codec_setters.md R130). -/
def State.writeTx (s : State) (fld : FieldSpec) (v : Byte) : State := { s with tx := writeField fld v s.tx }

/-- The write of a one-bit TX field that no DriverState value mirrors. -/
def State.writeTxBit (s : State) (fld : FieldSpec) (v : Bool) : State := s.writeTx fld (Byte.ofBit v)

/-- `put_pll(w)` (44_tuning_search.md, helper functions). -/
def State.putPll (s : State) (w : PllWord) : State := { s with tx := putPllWord w s.tx }

/-- `set_side(x)`: bit and mirror together (10_state.md R31; 44_tuning_search.md, helper functions). -/
def State.setSide (s : State) (x : Side) : State :=
  { s with tx := writeBit injSideField x.bit s.tx, side := x }

/-- The value of a DriverState boolean (10_state.md R29). -/
def State.mirror (s : State) : Mirror → Bool
  | .muted => s.muted
  | .mutedLeft => s.mutedLeft
  | .mutedRight => s.mutedRight
  | .softMuted => s.softMuted
  | .highCutControl => s.highCutControl
  | .stereoNoiseCancelling => s.stereoNoiseCancelling
  | .standby => s.standby
  | .forcedMono => s.forcedMono

/-- A DriverState boolean and its TX bit, written together (10_state.md R30). -/
def State.writeMirror (s : State) (m : Mirror) (v : Bool) : State :=
  match m with
  | .muted => { s with tx := writeBit muteField v s.tx, muted := v }
  | .mutedLeft => { s with tx := writeBit muteLeftField v s.tx, mutedLeft := v }
  | .mutedRight => { s with tx := writeBit muteRightField v s.tx, mutedRight := v }
  | .softMuted => { s with tx := writeBit softMuteField v s.tx, softMuted := v }
  | .highCutControl => { s with tx := writeBit hccField v s.tx, highCutControl := v }
  | .stereoNoiseCancelling => { s with tx := writeBit sncField v s.tx, stereoNoiseCancelling := v }
  | .standby => { s with tx := writeBit standbyField v s.tx, standby := v }
  | .forcedMono => { s with tx := writeBit forcedMonoField v s.tx, forcedMono := v }

/-- MUTE_ON (44_tuning_search.md R241). -/
def State.muteOn (s : State) : State := (s.writeMirror .muted true).transmit

/-- MUTE_OFF (44_tuning_search.md R241). -/
def State.muteOff (s : State) : State := (s.writeMirror .muted false).transmit

/-- The sequencer moves (10_state.md R45). -/
def State.inPhase (s : State) (p : Phase) : State := { s with phase := p }

/-- MAX_POLLS of this block (00_scope.md R6; log 6). -/
def State.pollLimit (s : State) : PollLimit := pollLimitOf s.params

/-- `polls = MAX_POLLS`, never true when MAX_POLLS = INF (44_tuning_search.md R250). -/
def limitReached (limit : PollLimit) (polls : Nat) : Bool :=
  match limit with
  | .inf => false
  | .atMost extra => polls == extra + 1

/-- How many polls one step of the model makes at most: MAX_POLLS when it is finite, so that a bounded
SEARCH is one step, and one when it is INF (log 7). -/
def pollsPerStep : PollLimit → Nat
  | .inf => 1
  | .atMost extra => extra + 1

/-! ## The hardware reset -/

def isWrite : BusEvent → Bool
  | .write _ _ _ => true
  | .read _ _ _ => false
  | .delay _ => false

def isRead : BusEvent → Bool
  | .write _ _ _ => false
  | .read _ _ _ => true
  | .delay _ => false

/-- The environment after the primitive calls `calls`: each transaction has used one answer, and the calls
stand in the trace in their order (20_memory.md R67). -/
def State.withCalls (s : State) (calls : List BusEvent) : State :=
  { s with env := { s.env with
      writeAnswers := s.env.writeAnswers.drop (calls.countP isWrite)
      readAnswers := s.env.readAnswers.drop (calls.countP isRead)
      busCalls := s.env.busCalls + calls.countP isWrite + calls.countP isRead
      trace := s.env.trace ++ calls } }

/-- The primitive calls `after` made since `before`. -/
def newCalls (before after : State) : List BusEvent := after.env.trace.drop before.env.trace.length

/-- The block's reset state for the parameters it was built with, its environment kept: resetting the block
resets neither the chip nor the host (70_reset_and_hazards.md R342, R345; log 9). -/
def State.hardwareReset (s : State) : State := { State.resetWith s.params with env := s.env }

/-- A reset asserted after the first `calls` primitive calls of what leads from `before` to `after`, or after
its last one if it makes fewer (70_reset_and_hazards.md R342; log 9): what ran is abandoned, no further
primitive is called for it, and no result is returned for it. -/
def resetDuring (before after : State) (calls : Nat) : State :=
  before.hardwareReset.withCalls ((newCalls before after).take calls)

end Sys2Proof.Machine
end

