-- ==== Sys2Proof/Machine/Converter.lean ====
section
/-! DEFINITION. The two commands of the frequency-to-PLL-word converter (42_codec_frequency.md R203, R204);
the functions `enc` and `dec` stand in Machine/Operands.lean. -/

namespace Sys2Proof.Machine

/-- ENCODE_FREQ f, s (42_codec_frequency.md R203): the word is merged into TX and returned; `inj_side`,
`side` and `freq_nom` are not written. -/
def execEncodeFreq (f : FreqArg) (sd : Side) (s : State) : Host.Outcome State Fault Refusal :=
  .next ((s.accept.putPll (enc (freqOperand f) sd)).returned ((enc (freqOperand f) sd).setWidth 32))

/-- DECODE_FREQ w, s (42_codec_frequency.md R204): a pure function of its operands. -/
def execDecodeFreq (w : PllWord) (sd : Side) (s : State) : Host.Outcome State Fault Refusal :=
  .next (s.accept.returned (sext32 (dec w sd)))

end Sys2Proof.Machine
end

