-- ==== Sys2Proof/Machine/Getters.lean ====
section
/-! DEFINITION. The thirty-five getters (41_codec_getters.md R160 to R195): they write nothing and call no
bus primitive; `val` is the field, zero-extended (GETST_FREQ: as it stands in 32 bits). -/

namespace Sys2Proof.Machine

/-- The value of a one-byte field, zero-extended (41_codec_getters.md R160). -/
def fieldVal (fld : FieldSpec) (im : Image) : Val := (readField fld im).setWidth 32

/-- GET_MUTE (41_codec_getters.md R161): the field of TX. -/
def execGetMute (s : State) : Host.Outcome State Fault Refusal := .next (s.accept.returned (fieldVal muteField s.tx))

/-- GET_SEARCH_MODE (41_codec_getters.md R162): the field of TX. -/
def execGetSearchMode (s : State) : Host.Outcome State Fault Refusal := .next (s.accept.returned (fieldVal searchModeField s.tx))

/-- GET_PLL (41_codec_getters.md R163): the PLL word of TX. -/
def execGetPll (s : State) : Host.Outcome State Fault Refusal := .next (s.accept.returned ((getPllWord s.tx).setWidth 32))

/-- GET_SEARCH_DIR (41_codec_getters.md R164): the field of TX. -/
def execGetSearchDir (s : State) : Host.Outcome State Fault Refusal := .next (s.accept.returned (fieldVal searchDirField s.tx))

/-- GET_STOP_LEVEL (41_codec_getters.md R165): the field of TX. -/
def execGetStopLevel (s : State) : Host.Outcome State Fault Refusal := .next (s.accept.returned (fieldVal stopLevelField s.tx))

/-- GET_INJ_SIDE (41_codec_getters.md R166): the field of TX. -/
def execGetInjSide (s : State) : Host.Outcome State Fault Refusal := .next (s.accept.returned (fieldVal injSideField s.tx))

/-- GET_FORCED_MONO (41_codec_getters.md R167): the field of TX. -/
def execGetForcedMono (s : State) : Host.Outcome State Fault Refusal := .next (s.accept.returned (fieldVal forcedMonoField s.tx))

/-- GET_MUTE_RIGHT (41_codec_getters.md R168): the field of TX. -/
def execGetMuteRight (s : State) : Host.Outcome State Fault Refusal := .next (s.accept.returned (fieldVal muteRightField s.tx))

/-- GET_MUTE_LEFT (41_codec_getters.md R169): the field of TX. -/
def execGetMuteLeft (s : State) : Host.Outcome State Fault Refusal := .next (s.accept.returned (fieldVal muteLeftField s.tx))

/-- GET_AUX1 (41_codec_getters.md R170): the field of TX. -/
def execGetAux1 (s : State) : Host.Outcome State Fault Refusal := .next (s.accept.returned (fieldVal aux1Field s.tx))

/-- GET_AUX2 (41_codec_getters.md R171): the field of TX. -/
def execGetAux2 (s : State) : Host.Outcome State Fault Refusal := .next (s.accept.returned (fieldVal aux2Field s.tx))

/-- GET_STANDBY (41_codec_getters.md R172): the field of TX. -/
def execGetStandby (s : State) : Host.Outcome State Fault Refusal := .next (s.accept.returned (fieldVal standbyField s.tx))

/-- GET_BAND (41_codec_getters.md R173): the field of TX. -/
def execGetBand (s : State) : Host.Outcome State Fault Refusal := .next (s.accept.returned (fieldVal bandField s.tx))

/-- GET_XTAL (41_codec_getters.md R174): the field of TX. -/
def execGetXtal (s : State) : Host.Outcome State Fault Refusal := .next (s.accept.returned (fieldVal xtalField s.tx))

/-- GET_SOFT_MUTE (41_codec_getters.md R175): the field of TX. -/
def execGetSoftMute (s : State) : Host.Outcome State Fault Refusal := .next (s.accept.returned (fieldVal softMuteField s.tx))

/-- GET_HCC (41_codec_getters.md R176): the field of TX. -/
def execGetHcc (s : State) : Host.Outcome State Fault Refusal := .next (s.accept.returned (fieldVal hccField s.tx))

/-- GET_SNC (41_codec_getters.md R177): the field of TX. -/
def execGetSnc (s : State) : Host.Outcome State Fault Refusal := .next (s.accept.returned (fieldVal sncField s.tx))

/-- GET_SEARCH_IND (41_codec_getters.md R178): the field of TX. -/
def execGetSearchInd (s : State) : Host.Outcome State Fault Refusal := .next (s.accept.returned (fieldVal searchIndField s.tx))

/-- GET_PLL_REF (41_codec_getters.md R179): the field of TX. -/
def execGetPllRef (s : State) : Host.Outcome State Fault Refusal := .next (s.accept.returned (fieldVal pllRefField s.tx))

/-- GET_DEEMPH (41_codec_getters.md R180): the field of TX. -/
def execGetDeemph (s : State) : Host.Outcome State Fault Refusal := .next (s.accept.returned (fieldVal deemphField s.tx))

/-- GETRX_READY (41_codec_getters.md R181): the field of RX. -/
def execGetrxReady (s : State) : Host.Outcome State Fault Refusal := .next (s.accept.returned (fieldVal readyField s.rx))

/-- GETRX_BAND_LIMIT (41_codec_getters.md R182): the field of RX. -/
def execGetrxBandLimit (s : State) : Host.Outcome State Fault Refusal := .next (s.accept.returned (fieldVal bandLimitField s.rx))

/-- GETRX_LEVEL (41_codec_getters.md R183): the field of RX. -/
def execGetrxLevel (s : State) : Host.Outcome State Fault Refusal := .next (s.accept.returned (fieldVal levelField s.rx))

/-- GETRX_PLL (41_codec_getters.md R184): the PLL word of RX. -/
def execGetrxPll (s : State) : Host.Outcome State Fault Refusal := .next (s.accept.returned ((getPllWord s.rx).setWidth 32))

/-- GETST_MUTED (41_codec_getters.md R185): `muted`. -/
def execGetstMuted (s : State) : Host.Outcome State Fault Refusal := .next (s.accept.returned (Val.ofBit (s.mirror .muted)))

/-- GETST_MUTED_LEFT (41_codec_getters.md R186): `mutedLeft`. -/
def execGetstMutedLeft (s : State) : Host.Outcome State Fault Refusal := .next (s.accept.returned (Val.ofBit (s.mirror .mutedLeft)))

/-- GETST_MUTED_RIGHT (41_codec_getters.md R187): `mutedRight`. -/
def execGetstMutedRight (s : State) : Host.Outcome State Fault Refusal := .next (s.accept.returned (Val.ofBit (s.mirror .mutedRight)))

/-- GETST_SOFT_MUTED (41_codec_getters.md R188): `softMuted`. -/
def execGetstSoftMuted (s : State) : Host.Outcome State Fault Refusal := .next (s.accept.returned (Val.ofBit (s.mirror .softMuted)))

/-- GETST_HCC (41_codec_getters.md R189): `highCutControl`. -/
def execGetstHcc (s : State) : Host.Outcome State Fault Refusal := .next (s.accept.returned (Val.ofBit (s.mirror .highCutControl)))

/-- GETST_SNC (41_codec_getters.md R190): `stereoNoiseCancelling`. -/
def execGetstSnc (s : State) : Host.Outcome State Fault Refusal := .next (s.accept.returned (Val.ofBit (s.mirror .stereoNoiseCancelling)))

/-- GETST_STANDBY (41_codec_getters.md R191): `standby`. -/
def execGetstStandby (s : State) : Host.Outcome State Fault Refusal := .next (s.accept.returned (Val.ofBit (s.mirror .standby)))

/-- GETST_FORCED_MONO (41_codec_getters.md R192): `forcedMono`. -/
def execGetstForcedMono (s : State) : Host.Outcome State Fault Refusal := .next (s.accept.returned (Val.ofBit (s.mirror .forcedMono)))

/-- GETST_SIDE (41_codec_getters.md R193): `side`, 1 for HIGH. -/
def execGetstSide (s : State) : Host.Outcome State Fault Refusal := .next (s.accept.returned (Val.ofBit s.side.bit))

/-- GETST_FREQ (41_codec_getters.md R194): `freq_nom` in two's complement. -/
def execGetstFreq (s : State) : Host.Outcome State Fault Refusal := .next (s.accept.returned (s.freqNom))

/-- GETST_FAULT (41_codec_getters.md R195): FAULT as it stood at acceptance; reading clears nothing. -/
def execGetstFault (s : State) : Host.Outcome State Fault Refusal := .next (s.accept.returned (s.fault.setWidth 32))

end Sys2Proof.Machine
end

