-- ==== Sys2Proof/Machine/Session.lean ====
section
/-! DEFINITION. The two commands of the Bus Session (43_bus_session.md R221, R223). -/

namespace Sys2Proof.Machine

/-- TRANSMIT (43_bus_session.md R221). -/
def execTransmit (s : State) : Host.Outcome State Fault Refusal := .next (s.accept.transmit.returned 0)

/-- RECEIVE_STATUS (43_bus_session.md R223). -/
def execReceiveStatus (s : State) : Host.Outcome State Fault Refusal :=
  .next (s.accept.receiveStatus.returned 0)

end Sys2Proof.Machine
end

