-- ==== Sys2Proof/Machine/Setters.lean ====
section
/-! DEFINITION. The twenty setters (40_codec_setters.md R130 to R151): one field of TX and its mirror, no
bus traffic, `val` = 0. The must-be-zero check of each is the decoder's (30_encoding.md R115). -/

namespace Sys2Proof.Machine

/-- SET_MUTE v (40_codec_setters.md R131): bit and mirror `muted` together. -/
def execSetMute (v : Bool) (s : State) : Host.Outcome State Fault Refusal :=
  .next ((s.accept.writeMirror .muted v).returned 0)

/-- SET_SEARCH_MODE v (40_codec_setters.md R132): no mirror. -/
def execSetSearchMode (v : Bool) (s : State) : Host.Outcome State Fault Refusal :=
  .next ((s.accept.writeTxBit searchModeField v).returned 0)

/-- SET_PLL w (40_codec_setters.md R133): the PLL word; `freq_nom` is not updated. -/
def execSetPll (w : PllWord) (s : State) : Host.Outcome State Fault Refusal :=
  .next ((s.accept.putPll w).returned 0)

/-- SET_SEARCH_DIR v (40_codec_setters.md R134): no mirror. -/
def execSetSearchDir (v : Bool) (s : State) : Host.Outcome State Fault Refusal :=
  .next ((s.accept.writeTxBit searchDirField v).returned 0)

/-- SET_STOP_LEVEL l (40_codec_setters.md R135): the reserved code 0 is refused with IllegalOperand (log 13). -/
def execSetStopLevel (l : BitVec 2) (s : State) : Host.Outcome State Fault Refusal :=
  if stopLevelLegal l then .next ((s.accept.writeTx stopLevelField (l.setWidth 8)).returned 0)
  else .next (s.refuse .illegalOperand)

/-- SET_INJ_SIDE v (40_codec_setters.md R136): bit and mirror `side` together. -/
def execSetInjSide (v : Bool) (s : State) : Host.Outcome State Fault Refusal :=
  .next ((s.accept.setSide (Side.ofBit v)).returned 0)

/-- SET_FORCED_MONO v (40_codec_setters.md R137): bit and mirror `forcedMono` together. -/
def execSetForcedMono (v : Bool) (s : State) : Host.Outcome State Fault Refusal :=
  .next ((s.accept.writeMirror .forcedMono v).returned 0)

/-- SET_MUTE_RIGHT v (40_codec_setters.md R138): bit and mirror `mutedRight` together. -/
def execSetMuteRight (v : Bool) (s : State) : Host.Outcome State Fault Refusal :=
  .next ((s.accept.writeMirror .mutedRight v).returned 0)

/-- SET_MUTE_LEFT v (40_codec_setters.md R139): bit and mirror `mutedLeft` together. -/
def execSetMuteLeft (v : Bool) (s : State) : Host.Outcome State Fault Refusal :=
  .next ((s.accept.writeMirror .mutedLeft v).returned 0)

/-- SET_AUX1 v (40_codec_setters.md R140): no mirror. -/
def execSetAux1 (v : Bool) (s : State) : Host.Outcome State Fault Refusal :=
  .next ((s.accept.writeTxBit aux1Field v).returned 0)

/-- SET_AUX2 v (40_codec_setters.md R141): no mirror. -/
def execSetAux2 (v : Bool) (s : State) : Host.Outcome State Fault Refusal :=
  .next ((s.accept.writeTxBit aux2Field v).returned 0)

/-- SET_STANDBY v (40_codec_setters.md R142): bit and mirror `standby` together. -/
def execSetStandby (v : Bool) (s : State) : Host.Outcome State Fault Refusal :=
  .next ((s.accept.writeMirror .standby v).returned 0)

/-- SET_BAND v (40_codec_setters.md R143): no mirror. -/
def execSetBand (v : Bool) (s : State) : Host.Outcome State Fault Refusal :=
  .next ((s.accept.writeTxBit bandField v).returned 0)

/-- SET_XTAL v (40_codec_setters.md R144): no mirror. -/
def execSetXtal (v : Bool) (s : State) : Host.Outcome State Fault Refusal :=
  .next ((s.accept.writeTxBit xtalField v).returned 0)

/-- SET_SOFT_MUTE v (40_codec_setters.md R145): bit and mirror `softMuted` together. -/
def execSetSoftMute (v : Bool) (s : State) : Host.Outcome State Fault Refusal :=
  .next ((s.accept.writeMirror .softMuted v).returned 0)

/-- SET_HCC v (40_codec_setters.md R146): bit and mirror `highCutControl` together. -/
def execSetHcc (v : Bool) (s : State) : Host.Outcome State Fault Refusal :=
  .next ((s.accept.writeMirror .highCutControl v).returned 0)

/-- SET_SNC v (40_codec_setters.md R147): bit and mirror `stereoNoiseCancelling` together. -/
def execSetSnc (v : Bool) (s : State) : Host.Outcome State Fault Refusal :=
  .next ((s.accept.writeMirror .stereoNoiseCancelling v).returned 0)

/-- SET_SEARCH_IND v (40_codec_setters.md R148): no mirror. -/
def execSetSearchInd (v : Bool) (s : State) : Host.Outcome State Fault Refusal :=
  .next ((s.accept.writeTxBit searchIndField v).returned 0)

/-- SET_PLL_REF v (40_codec_setters.md R149): no mirror. -/
def execSetPllRef (v : Bool) (s : State) : Host.Outcome State Fault Refusal :=
  .next ((s.accept.writeTxBit pllRefField v).returned 0)

/-- SET_DEEMPH v (40_codec_setters.md R150): no mirror. -/
def execSetDeemph (v : Bool) (s : State) : Host.Outcome State Fault Refusal :=
  .next ((s.accept.writeTxBit deemphField v).returned 0)

end Sys2Proof.Machine
end

