-- ==== Sys2Proof/Machine/Toggles.lean ====
section
/-! DEFINITION. The eight toggles (45_toggles.md R280 to R289). -/

namespace Sys2Proof.Machine

/-- The common shape of 45_toggles.md R280: flip the boolean, make the bit follow the new value, transmit. -/
def State.toggle (s : State) (m : Mirror) : State := (s.writeMirror m (!s.mirror m)).transmit

/-- TOGGLE_MUTE (45_toggles.md R281). -/
def execToggleMute (s : State) : Host.Outcome State Fault Refusal :=
  .next ((s.accept.toggle .muted).returned 0)

/-- TOGGLE_MUTE_LEFT (45_toggles.md R282). The test is on `mutedLeft` (90_conflicts.md C1). -/
def execToggleMuteLeft (s : State) : Host.Outcome State Fault Refusal :=
  .next ((s.accept.toggle .mutedLeft).returned 0)

/-- TOGGLE_MUTE_RIGHT (45_toggles.md R283). -/
def execToggleMuteRight (s : State) : Host.Outcome State Fault Refusal :=
  .next ((s.accept.toggle .mutedRight).returned 0)

/-- TOGGLE_SOFT_MUTE (45_toggles.md R284). -/
def execToggleSoftMute (s : State) : Host.Outcome State Fault Refusal :=
  .next ((s.accept.toggle .softMuted).returned 0)

/-- TOGGLE_STANDBY (45_toggles.md R285). -/
def execToggleStandby (s : State) : Host.Outcome State Fault Refusal :=
  .next ((s.accept.toggle .standby).returned 0)

/-- TOGGLE_FORCED_MONO (45_toggles.md R286). -/
def execToggleForcedMono (s : State) : Host.Outcome State Fault Refusal :=
  .next ((s.accept.toggle .forcedMono).returned 0)

/-- TOGGLE_HCC (45_toggles.md R287). -/
def execToggleHcc (s : State) : Host.Outcome State Fault Refusal :=
  .next ((s.accept.toggle .highCutControl).returned 0)

/-- TOGGLE_SNC (45_toggles.md R288). -/
def execToggleSnc (s : State) : Host.Outcome State Fault Refusal :=
  .next ((s.accept.toggle .stereoNoiseCancelling).returned 0)

end Sys2Proof.Machine
end

