-- ==== Sys2Proof/Machine/Tuning.lean ====
section
/-! DEFINITION. The Tuning and Search Engine (44_tuning_search.md): its procedures, row by row of the two
sequencer tables R243 and R251, and its eight commands. -/

namespace Sys2Proof.Machine

/-! ## Procedures -/

/-- The procedure LOAD_FREQUENCY (44_tuning_search.md R240). -/
def State.loadFrequency (s : State) : State :=
  { s with tx := copyPllWord s.rx s.tx, freqNom := sext32 (dec (getPllWord s.rx) s.side) }

/-- One probe of 44_tuning_search.md R242: side, word, TRANSMIT, RECEIVE_STATUS. -/
def State.probe (s : State) (f : Int) (x : Side) : State :=
  ((s.setSide x).putPll (enc f x)).transmit.receiveStatus

/-- Row P_HIGH of 44_tuning_search.md R243. -/
def State.probeHigh (s : State) (f : Int) : State :=
  let t := (s.inPhase .pHigh).probe (f + Config.probeHz) .high
  { t with levHi := rxLevel t.rx }

/-- Row P_LOW of 44_tuning_search.md R243. -/
def State.probeLow (s : State) (f : Int) : State :=
  let t := (s.inPhase .pLow).probe (f - Config.probeHz) .low
  { t with levLo := rxLevel t.rx }

/-- Row P_CMP of 44_tuning_search.md R243. -/
def State.probeCompare (s : State) : State := (s.inPhase .pCmp).setSide (comparatorSide s.levHi s.levLo)

/-- The procedure DETERMINE_INJECTION_SIDE (44_tuning_search.md R242); it ends in its caller's phase. -/
def State.determineSide (s : State) (f : Int) : State :=
  ((s.probeHigh f).probeLow f).probeCompare.inPhase s.phase

/-- MUTE_ON when the flag operand is 1 (44_tuning_search.md R244, R250). -/
def State.muteOnIf (s : State) (m : Bool) : State := if m then s.muteOn else s

/-- MUTE_OFF when the flag operand is 1 (44_tuning_search.md R244, R250). -/
def State.muteOffIf (s : State) (m : Bool) : State := if m then s.muteOff else s

/-- `put_pll(enc(f, side)); freq_nom <- f` (44_tuning_search.md R244, R256). -/
def State.tuneWord (s : State) (f : Int) : State :=
  { s.putPll (enc f s.side) with freqNom := sext32 f }

/-- The procedure SELECT_FREQUENCY (44_tuning_search.md R244). -/
def State.selectFrequency (s : State) (f : Int) (m : Bool) : State :=
  (((((s.muteOnIf m).determineSide f).tuneWord f).transmit).muteOffIf m)

/-- Rows S_MUTE and S_START of 44_tuning_search.md R251; the search is then in S_POLL. -/
def State.searchStart (s : State) (d : Direction) (m : Bool) : State :=
  let muted := if m then (s.inPhase .sMute).muteOn else s
  let asked := ((muted.inPhase .sStart).writeTxBit searchDirField d.bit).writeTxBit searchModeField true
  { asked.transmit with polls := 0, muteDuringSearch := m, phase := .sPoll }

/-- The end of a search, rows S_LATCH or S_ABORT from `search_mode <- 0` on, and S_UNMUTE
(44_tuning_search.md R250, R251): the command returns `blf`. -/
def State.searchClose (s : State) : State :=
  let closed := (s.writeTxBit searchModeField false).transmit
  let unmuted := if s.muteDuringSearch then (closed.inPhase .sUnmute).muteOff else closed
  unmuted.returned (Val.ofBit s.blf)

/-- Row S_LATCH of 44_tuning_search.md R251. -/
def State.searchLatch (s : State) : State :=
  ({ s.inPhase .sLatch with blf := readBit bandLimitField s.rx }).loadFrequency.searchClose

/-- Row S_ABORT of 44_tuning_search.md R251. -/
def State.searchAbort (s : State) : State :=
  ({ (s.inPhase .sAbort).raise .searchTimedOut with blf := false }).searchClose

/-- One RECEIVE_STATUS of the poll loop and its count (44_tuning_search.md R250). -/
def State.pollOnce (s : State) : State :=
  let t := s.receiveStatus
  { t with polls := t.polls + 1 }

/-- The poll loop of 44_tuning_search.md R250, at most `n` polls of it: `ready` is tested first, on the
block's RX copy, then the count. -/
def State.pollLoop : Nat → State → State
  | 0, s => s
  | n + 1, s =>
    let t := s.pollOnce
    if readBit readyField t.rx then t.searchLatch
    else if limitReached t.pollLimit t.polls then t.searchAbort
    else State.pollLoop n t

/-- Row S_POLL of 44_tuning_search.md R251, as often as one step of the model takes it (log 7). -/
def State.searchPolls (s : State) : State := State.pollLoop (pollsPerStep s.pollLimit) s

/-- The procedure SEARCH (44_tuning_search.md R250). -/
def State.searchProc (s : State) (d : Direction) (m : Bool) : State := (s.searchStart d m).searchPolls

/-- The procedure SEARCH_FROM (44_tuning_search.md R256): select without muting, nudge, search. -/
def State.searchFromProc (s : State) (f : Int) (m : Bool) : State :=
  let selected := s.selectFrequency f false
  let d := Direction.ofBit (readBit searchDirField selected.tx)
  (selected.tuneWord (nudgedHz d f)).searchProc d m

/-! ## Commands -/

/-- LOAD_FREQUENCY (44_tuning_search.md R240). -/
def execLoadFrequency (s : State) : Host.Outcome State Fault Refusal :=
  .next (s.accept.loadFrequency.returned 0)

/-- DETERMINE_INJECTION_SIDE f (44_tuning_search.md R242): `val` is the chosen side's bit. -/
def execDetermineInjectionSide (f : FreqArg) (s : State) : Host.Outcome State Fault Refusal :=
  let t := s.accept.determineSide (freqOperand f)
  .next (t.returned (Val.ofBit t.side.bit))

/-- SELECT_FREQUENCY f, m (44_tuning_search.md R244). -/
def execSelectFrequency (f : FreqArg) (m : Bool) (s : State) : Host.Outcome State Fault Refusal :=
  .next ((s.accept.selectFrequency (freqOperand f) m).returned 0)

/-- SELECT_CHANNEL c, m (44_tuning_search.md R246). -/
def execSelectChannel (c : ChanArg) (m : Bool) (s : State) : Host.Outcome State Fault Refusal :=
  .next ((s.accept.selectFrequency (channelHz c) m).returned 0)

/-- SEARCH d, m (44_tuning_search.md R250). With a finite MAX_POLLS it returns in this step; with INF it
may still be in S_POLL, and each further step polls once more (log 7). -/
def execSearch (d : Direction) (m : Bool) (s : State) : Host.Outcome State Fault Refusal :=
  .next (s.accept.searchProc d m)

/-- SEARCH_FROM f, m (44_tuning_search.md R256). -/
def execSearchFrom (f : FreqArg) (m : Bool) (s : State) : Host.Outcome State Fault Refusal :=
  .next (s.accept.searchFromProc (freqOperand f) m)

/-- SEARCH_FROM_BEGINNING m (44_tuning_search.md R258). -/
def execSearchFromBeginning (m : Bool) (s : State) : Host.Outcome State Fault Refusal :=
  .next ((s.accept.writeTxBit searchDirField true).searchFromProc Config.bandLoHz m)

/-- SEARCH_FROM_END m (44_tuning_search.md R259). -/
def execSearchFromEnd (m : Bool) (s : State) : Host.Outcome State Fault Refusal :=
  .next ((s.accept.writeTxBit searchDirField false).searchFromProc Config.bandHiHz m)

end Sys2Proof.Machine
end

