-- ==== Sys2Proof/Machine/Dispatch.lean ====
section
/-! DEFINITION. One arm per command of 30_encoding.md R114, each a direct call of its meaning. -/

namespace Sys2Proof.Machine

def exec (i : Instr) (s : State) : Host.Outcome State Fault Refusal :=
  match i with
  | .setMute v => Sys2Proof.Machine.execSetMute v s
  | .setSearchMode v => Sys2Proof.Machine.execSetSearchMode v s
  | .setPll w => Sys2Proof.Machine.execSetPll w s
  | .setSearchDir v => Sys2Proof.Machine.execSetSearchDir v s
  | .setStopLevel l => Sys2Proof.Machine.execSetStopLevel l s
  | .setInjSide v => Sys2Proof.Machine.execSetInjSide v s
  | .setForcedMono v => Sys2Proof.Machine.execSetForcedMono v s
  | .setMuteRight v => Sys2Proof.Machine.execSetMuteRight v s
  | .setMuteLeft v => Sys2Proof.Machine.execSetMuteLeft v s
  | .setAux1 v => Sys2Proof.Machine.execSetAux1 v s
  | .setAux2 v => Sys2Proof.Machine.execSetAux2 v s
  | .setStandby v => Sys2Proof.Machine.execSetStandby v s
  | .setBand v => Sys2Proof.Machine.execSetBand v s
  | .setXtal v => Sys2Proof.Machine.execSetXtal v s
  | .setSoftMute v => Sys2Proof.Machine.execSetSoftMute v s
  | .setHcc v => Sys2Proof.Machine.execSetHcc v s
  | .setSnc v => Sys2Proof.Machine.execSetSnc v s
  | .setSearchInd v => Sys2Proof.Machine.execSetSearchInd v s
  | .setPllRef v => Sys2Proof.Machine.execSetPllRef v s
  | .setDeemph v => Sys2Proof.Machine.execSetDeemph v s
  | .getMute => Sys2Proof.Machine.execGetMute s
  | .getSearchMode => Sys2Proof.Machine.execGetSearchMode s
  | .getPll => Sys2Proof.Machine.execGetPll s
  | .getSearchDir => Sys2Proof.Machine.execGetSearchDir s
  | .getStopLevel => Sys2Proof.Machine.execGetStopLevel s
  | .getInjSide => Sys2Proof.Machine.execGetInjSide s
  | .getForcedMono => Sys2Proof.Machine.execGetForcedMono s
  | .getMuteRight => Sys2Proof.Machine.execGetMuteRight s
  | .getMuteLeft => Sys2Proof.Machine.execGetMuteLeft s
  | .getAux1 => Sys2Proof.Machine.execGetAux1 s
  | .getAux2 => Sys2Proof.Machine.execGetAux2 s
  | .getStandby => Sys2Proof.Machine.execGetStandby s
  | .getBand => Sys2Proof.Machine.execGetBand s
  | .getXtal => Sys2Proof.Machine.execGetXtal s
  | .getSoftMute => Sys2Proof.Machine.execGetSoftMute s
  | .getHcc => Sys2Proof.Machine.execGetHcc s
  | .getSnc => Sys2Proof.Machine.execGetSnc s
  | .getSearchInd => Sys2Proof.Machine.execGetSearchInd s
  | .getPllRef => Sys2Proof.Machine.execGetPllRef s
  | .getDeemph => Sys2Proof.Machine.execGetDeemph s
  | .getrxReady => Sys2Proof.Machine.execGetrxReady s
  | .getrxBandLimit => Sys2Proof.Machine.execGetrxBandLimit s
  | .getrxLevel => Sys2Proof.Machine.execGetrxLevel s
  | .getrxPll => Sys2Proof.Machine.execGetrxPll s
  | .getstMuted => Sys2Proof.Machine.execGetstMuted s
  | .getstMutedLeft => Sys2Proof.Machine.execGetstMutedLeft s
  | .getstMutedRight => Sys2Proof.Machine.execGetstMutedRight s
  | .getstSoftMuted => Sys2Proof.Machine.execGetstSoftMuted s
  | .getstHcc => Sys2Proof.Machine.execGetstHcc s
  | .getstSnc => Sys2Proof.Machine.execGetstSnc s
  | .getstStandby => Sys2Proof.Machine.execGetstStandby s
  | .getstForcedMono => Sys2Proof.Machine.execGetstForcedMono s
  | .getstSide => Sys2Proof.Machine.execGetstSide s
  | .getstFreq => Sys2Proof.Machine.execGetstFreq s
  | .getstFault => Sys2Proof.Machine.execGetstFault s
  | .encodeFreq f sd => Sys2Proof.Machine.execEncodeFreq f sd s
  | .decodeFreq w sd => Sys2Proof.Machine.execDecodeFreq w sd s
  | .transmit => Sys2Proof.Machine.execTransmit s
  | .receiveStatus => Sys2Proof.Machine.execReceiveStatus s
  | .selectFrequency f m => Sys2Proof.Machine.execSelectFrequency f m s
  | .selectChannel c m => Sys2Proof.Machine.execSelectChannel c m s
  | .determineInjectionSide f => Sys2Proof.Machine.execDetermineInjectionSide f s
  | .search d m => Sys2Proof.Machine.execSearch d m s
  | .searchFrom f m => Sys2Proof.Machine.execSearchFrom f m s
  | .searchFromBeginning m => Sys2Proof.Machine.execSearchFromBeginning m s
  | .searchFromEnd m => Sys2Proof.Machine.execSearchFromEnd m s
  | .loadFrequency => Sys2Proof.Machine.execLoadFrequency s
  | .toggleMute => Sys2Proof.Machine.execToggleMute s
  | .toggleMuteLeft => Sys2Proof.Machine.execToggleMuteLeft s
  | .toggleMuteRight => Sys2Proof.Machine.execToggleMuteRight s
  | .toggleSoftMute => Sys2Proof.Machine.execToggleSoftMute s
  | .toggleStandby => Sys2Proof.Machine.execToggleStandby s
  | .toggleForcedMono => Sys2Proof.Machine.execToggleForcedMono s
  | .toggleHcc => Sys2Proof.Machine.execToggleHcc s
  | .toggleSnc => Sys2Proof.Machine.execToggleSnc s

end Sys2Proof.Machine
end

