-- ==== Sys2Proof/Machine/Port.lean ====
section
/-! DEFINITION. The command port: what a step of the block does with what the host presents next
(30_encoding.md R110, 60_exceptions.md R318, 70_reset_and_hazards.md R342). -/

namespace Sys2Proof.Machine

/-- The state with the host's inputs replaced. -/
def State.withInputs (s : State) (l : List HostInput) : State := { s with env := { s.env with inputs := l } }

/-- A command word at the command port: decoded, then run or refused (30_encoding.md R110, R115). -/
def runWord (w : CmdWord) (s : State) : Host.Outcome State Fault Refusal :=
  match decode w with
  | .ok i => exec i s
  | .error e => .next (s.refuse e)

/-- An outcome with a reset asserted `calls` primitive calls into it (70_reset_and_hazards.md R342). -/
def cutOutcome (before : State) (calls : Nat) :
    Host.Outcome State Fault Refusal → Host.Outcome State Fault Refusal
  | .next after => .next (resetDuring before after calls)
  | .fault r => .fault r
  | .refused r => .refused r

/-- An idle block accepts the command the host presents; nothing else moves it but a reset. -/
def stepIdle (s : State) : Host.Outcome State Fault Refusal :=
  match s.env.inputs with
  | [] => .next s
  | .nothing :: rest => .next (s.withInputs rest)
  | .command w :: rest => runWord w (s.withInputs rest)
  | .commandCut w calls :: rest => cutOutcome (s.withInputs rest) calls (runWord w (s.withInputs rest))
  | .reset _ :: rest => .next (s.withInputs rest).hardwareReset

/-- A block whose search is polling polls on (44_tuning_search.md R251). A command presented to it is not
accepted and has no effect: it is gone (30_encoding.md R110; 93_implementation_defined.md I19). A reset
abandons the search (70_reset_and_hazards.md R342). -/
def stepPolling (s : State) : Host.Outcome State Fault Refusal :=
  match s.env.inputs with
  | [] => .next s.searchPolls
  | .nothing :: rest => .next (s.withInputs rest).searchPolls
  | .command _ :: rest => .next (s.withInputs rest).searchPolls
  | .commandCut _ calls :: rest =>
    .next (resetDuring (s.withInputs rest) (s.withInputs rest).searchPolls calls)
  | .reset calls :: rest => .next (resetDuring (s.withInputs rest) (s.withInputs rest).searchPolls calls)

end Sys2Proof.Machine
end

