-- ==== Sys2Proof/Machine/Step.lean ====
section
/-! DEFINITION. One step of the machine. The block fetches nothing (20_memory.md R71): a command arrives
whole at the command port (30_encoding.md R110), which the model's list of host inputs stands for (log 8). -/

namespace Sys2Proof.Machine

/-- One step. -/
def step (s : State) : Host.Outcome State Fault Refusal :=
  match s.phase with
  | .idle => stepIdle s
  | .sPoll => stepPolling s
  | p => .fault (.strayPhase p)

/-- The word `w` of `nbits` bits as the command the host presents next to an idle block. -/
def State.withFetchWord (s : State) (nbits w : Nat) : State :=
  { s with
    phase := .idle
    env := { s.env with inputs := .command (BitVec.ofNat 40 (w % 2 ^ nbits)) :: s.env.inputs } }

end Sys2Proof.Machine
end

