-- ==== Sys2Proof/Safety.lean ====
section
/-! DEFINITION. What a good state is, in the terms claims use: the reachable-state invariants of
10_state.md R49 and what a well-shaped bus trace is (20_memory.md R66); and the vocabulary the claims write
expected next states and expected bus traffic in, taken from the spec's tables and not from the machine. -/

namespace Sys2Proof.Machine

/-- The mirror invariant (10_state.md R30), one equality per row of R29's table. -/
abbrev State.MirrorsAgree (s : State) : Prop :=
  s.muted = s.tx.b0.getLsbD 7 ∧ s.mutedLeft = s.tx.b2.getLsbD 1 ∧ s.mutedRight = s.tx.b2.getLsbD 2 ∧
  s.softMuted = s.tx.b3.getLsbD 3 ∧ s.highCutControl = s.tx.b3.getLsbD 2 ∧
  s.stereoNoiseCancelling = s.tx.b3.getLsbD 1 ∧ s.standby = s.tx.b3.getLsbD 6 ∧
  s.forcedMono = s.tx.b2.getLsbD 3

/-- `side` mirrors TX[2] bit 4 (10_state.md R31). -/
abbrev State.SideAgrees (s : State) : Prop := s.side.bit = s.tx.b2.getLsbD 4

/-- The unused bits of TX[4] are 0 and the stop level is never the reserved code (10_state.md R49 (a), (b)). -/
abbrev State.ImageLegal (s : State) : Prop := s.tx.b4 &&& 0x3F = 0 ∧ s.tx.b2 &&& 0x60 ≠ 0

/-- Between steps the block is idle, or a search polls whose MAX_POLLS is INF (70_reset_and_hazards.md R355),
and it is idle whenever a result stands (10_state.md R45, R49 (e)). -/
abbrev State.Resting (s : State) : Prop :=
  (s.phase = .idle ∨ (s.phase = .sPoll ∧ s.pollLimit = .inf)) ∧ (s.result.isSome → s.phase = .idle)

/-- Every fault of the last command is recorded in FAULT, and a result carries its `res`
(30_encoding.md R113, 60_exceptions.md R312). -/
abbrev State.FaultsRecorded (s : State) : Prop :=
  s.fault &&& s.res = s.res ∧ (s.result.map Result.res).getD s.res = s.res

/-- While a search polls, TX asks the chip to search, and mutes it if the search was asked to mute
(44_tuning_search.md R241, R251). -/
abbrev State.SearchAsked (s : State) : Prop :=
  s.phase = .sPoll → s.tx.b0.getLsbD 6 = true ∧ (s.muteDuringSearch = true → s.muted = true)

/-- The reachable-state invariant (10_state.md R49 and what its proof over this model needs). -/
abbrev State.Inv (s : State) : Prop :=
  s.ImageLegal ∧ s.MirrorsAgree ∧ s.SideAgrees ∧ s.Resting ∧ s.FaultsRecorded ∧ s.SearchAsked

/-- A state reached from reset, whatever the open parameters (RESET_SUD, RESET_RX, MAX_POLLS) of the build and
whatever the environment (inputs, answers) at reset, by steps of the machine and by changes of the environment
between them. -/
inductive Reachable : State → Prop where
  | reset (p : Params) (env : Env) : Reachable { State.resetWith p with env := env }
  | environment (s : State) (env : Env) : Reachable s → Reachable { s with env := env }
  | step (s t : State) : Reachable s → step s = .next t → Reachable t

/-- The pattern of 20_memory.md R66: every bus transaction is the whole image to or from device 0x60 (R60,
R64) and is followed at once by its settle delay, and no delay stands without one. -/
def settled : List BusEvent → Bool
  | [] => true
  | .write dev _ _ :: .delay ms :: rest => dev == 0x60 && ms == 100 && settled rest
  | .read dev count _ :: .delay ms :: rest => dev == 0x60 && count == 5 && ms == 100 && settled rest
  | _ => false

/-- The bounds of `freq_nom` (42_codec_frequency.md R206), read as a signed number. -/
abbrev State.FreqBounded (s : State) : Prop := -225000 ≤ s.freqNom.toInt ∧ s.freqNom.toInt ≤ 268535455

/-! ## Expected next states -/

/-- A command has ended with fault bits `bits` and value `val`: FAULT gains the bits and the block is idle
(30_encoding.md R113). -/
def State.ended (s : State) (bits : FaultBits) (val : Val) : State :=
  { s with phase := .idle, res := bits, fault := s.fault ||| bits, result := some { res := bits, val := val } }

/-- The encoding half of a command's rule: the word of op `op` and any `arg` is refused with IllegalOperand
and nothing else when `arg` has a 1 in a bit of `mbz`, and runs the command `k arg` otherwise
(30_encoding.md R115, 60_exceptions.md R305). -/
def EncodedAs (op : Byte) (mbz : Arg) (k : Arg → Instr) : Prop :=
  ∀ (arg : Arg) (s : State),
    (arg &&& mbz ≠ 0 → runWord (CmdWord.make op arg) s = .next (s.ended 0b10000 0)) ∧
    (arg &&& mbz = 0 → runWord (CmdWord.make op arg) s = exec (k arg) s)

/-! ## Expected bus traffic -/

/-- The answer of a `BusWrite` still to come, after `calls` further transactions of which `writes` are
writes: the script's entry, or the free answer of that transaction (20_memory.md R68; log 5). -/
def State.writeAnswerAt (s : State) (calls writes : Nat) : Bool :=
  (s.env.writeAnswers[writes]?).getD (Config.busWriteAnswer (s.env.busCalls + calls))

/-- The answer of a `BusRead` still to come, after `calls` further transactions of which `reads` are reads. -/
def State.readAnswerAt (s : State) (calls reads : Nat) : BusData :=
  (s.env.readAnswers[reads]?).getD (Config.busReadAnswer (s.env.busCalls + calls))

/-- `W[...]/ok D(100)`: the bus traffic of one TRANSMIT (43_bus_session.md R221). -/
def writeCalls (image : Image) (ok : Bool) : List BusEvent := [.write 0x60 image ok, .delay 100]

/-- `R/[...] D(100)`: the bus traffic of one RECEIVE_STATUS (43_bus_session.md R223). -/
def readCalls (d : BusData) : List BusEvent := [.read 0x60 5 d, .delay 100]

/-- The fault bit a write's answer causes (60_exceptions.md R301). -/
def writeFault (ok : Bool) : FaultBits := if ok then 0 else 0b00001

/-- The fault bit a read's answer causes (60_exceptions.md R302). -/
def readFault : BusData → FaultBits
  | .five _ _ _ _ _ => 0
  | .none | .one _ | .two _ _ | .three _ _ _ | .four _ _ _ _ => 0b00010

/-- RX after an answer: all five bytes, or none (20_memory.md R64). -/
def rxAfter (rx : Image) : BusData → Image
  | .five d0 d1 d2 d3 d4 => { b0 := d0, b1 := d1, b2 := d2, b3 := d3, b4 := d4 }
  | .none | .one _ | .two _ _ | .three _ _ _ | .four _ _ _ _ => rx

/-- The image with the PLL word `w` and the injection side `x`, every other bit as in `im`
(44_tuning_search.md, `put_pll` and `set_side`). -/
def tuned (im : Image) (w : PllWord) (x : Side) : Image :=
  { im with
    b0 := (im.b0 &&& 0xC0) ||| (w >>> 8).setWidth 8
    b1 := w.setWidth 8
    b2 := (im.b2 &&& 0xEF) ||| (if x = .high then 0x10 else 0x00) }

/-! ## The injection probe (44_tuning_search.md R242), given its two write answers and two read answers -/

/-- The signal level of an image (30_encoding.md R92). -/
def levelOf (rx : Image) : Nat := rx.b3.toNat / 16

/-- The side the comparator chooses from the two answers, RX being `rx` before the first. -/
def probedSide (rx : Image) (d1 d2 : BusData) : Side :=
  if levelOf (rxAfter rx d1) < levelOf (rxAfter (rxAfter rx d1) d2) then .high else .low

/-- The probe's bus traffic, `W D R D W D R D`. -/
def probeCalls (tx : Image) (f : Int) (k1 : Bool) (d1 : BusData) (k2 : Bool) (d2 : BusData) : List BusEvent :=
  writeCalls (tuned tx (enc (f + 450000) .high) .high) k1 ++ readCalls d1 ++
  (writeCalls (tuned tx (enc (f - 450000) .low) .low) k2 ++ readCalls d2)

/-- The faults the probe's four answers cause. -/
def probeFaults (k1 : Bool) (d1 : BusData) (k2 : Bool) (d2 : BusData) : FaultBits :=
  writeFault k1 ||| readFault d1 ||| writeFault k2 ||| readFault d2

/-! ## The station search (44_tuning_search.md R250), given its answers -/

/-- Transactions a search makes before its first poll: the opening write, after the mute's if m = 1. -/
def searchLead (m : Bool) : Nat := if m then 2 else 1

/-- The answers of the first `n` polls of a SEARCH issued in `s`. -/
def State.pollAnswers (s : State) (m : Bool) (n : Nat) : List BusData :=
  (List.range n).map fun j => s.readAnswerAt (searchLead m + j) j

/-- RX after a list of answers. -/
def rxAfterAll (rx : Image) (ds : List BusData) : Image := ds.foldl rxAfter rx

/-- The faults a list of read answers causes. -/
def readFaults (ds : List BusData) : FaultBits := ds.foldl (fun r d => r ||| readFault d) 0

/-- `(R D){p}`. -/
def pollCalls (ds : List BusData) : List BusEvent := ds.flatMap readCalls

/-- The image a SEARCH opens with: `search_dir` is d, `search_mode` is 1, and `mute` is 1 if m = 1. -/
def searchImage (im : Image) (d : Direction) (m : Bool) : Image :=
  { im with
    b0 := im.b0 ||| (if m then 0xC0 else 0x40)
    b2 := (im.b2 &&& 0x7F) ||| (if d = .up then 0x80 else 0x00) }

/-- `im` with `search_mode` cleared. -/
def searchEnded (im : Image) : Image := { im with b0 := im.b0 &&& 0xBF }

/-- `im` with `search_mode` and, if m = 1, `mute` cleared: what a SEARCH leaves. -/
def searchLeft (im : Image) (m : Bool) : Image := { im with b0 := im.b0 &&& (if m then 0x3F else 0xBF) }

/-- `im` with the PLL word of `rx` copied in (44_tuning_search.md R240). -/
def loaded (rx im : Image) : Image := { im with b0 := (im.b0 &&& 0xC0) ||| (rx.b0 &&& 0x3F), b1 := rx.b1 }

/-- How a SEARCH opens, `[W D] W D`, the bracketed write (of the mute) when m = 1. -/
def State.openingCalls (s : State) (d : Direction) (m : Bool) : List BusEvent :=
  (if m then writeCalls { s.tx with b0 := s.tx.b0 ||| 0x80 } (s.writeAnswerAt 0 0) else []) ++
  writeCalls (searchImage s.tx d m) (s.writeAnswerAt (searchLead m - 1) (searchLead m - 1))

/-- The faults the opening's answers cause. -/
def State.openingFaults (s : State) (m : Bool) : FaultBits :=
  (if m then writeFault (s.writeAnswerAt 0 0) else 0) |||
  writeFault (s.writeAnswerAt (searchLead m - 1) (searchLead m - 1))

/-- How a SEARCH closes, `W D [W D]`, the bracketed write (of the unmute) when m = 1, `last` being the image
before `search_mode` is cleared, after `calls` transactions since `s`, `writes` of them writes. -/
def State.closingCalls (s : State) (m : Bool) (last : Image) (calls writes : Nat) : List BusEvent :=
  writeCalls (searchEnded last) (s.writeAnswerAt calls writes) ++
  (if m then writeCalls (searchLeft last m) (s.writeAnswerAt (calls + 1) (writes + 1)) else [])

/-- The faults the closing's answers cause. -/
def State.closingFaults (s : State) (m : Bool) (calls writes : Nat) : FaultBits :=
  writeFault (s.writeAnswerAt calls writes) |||
  (if m then writeFault (s.writeAnswerAt (calls + 1) (writes + 1)) else 0)

/-- The primitive calls of a whole SEARCH with answers `ds` to its polls: `[W D] W D (R D){p} W D [W D]`. -/
def State.searchCalls (s : State) (d : Direction) (m : Bool) (ds : List BusData) (last : Image) :
    List BusEvent :=
  s.openingCalls d m ++ (pollCalls ds ++ s.closingCalls m last (searchLead m + ds.length) (searchLead m))

/-- The bus faults of a whole SEARCH with answers `ds` to its polls. -/
def State.searchFaults (s : State) (m : Bool) (ds : List BusData) : FaultBits :=
  s.openingFaults m ||| readFaults ds ||| s.closingFaults m (searchLead m + ds.length) (searchLead m)

/-- The writes a search that still polls has to make when it closes (44_tuning_search.md R251). -/
def State.owedWrites (s : State) : Nat := if s.phase = .sPoll then (if s.muteDuringSearch then 2 else 1) else 0

/-- In the next step the host asserts no reset and, if it presents a command, does so to no effect where a
command runs (30_encoding.md R110); `rest` is what it does after that step. -/
def State.HostLeavesAlone (s : State) (rest : List HostInput) : Prop :=
  (s.env.inputs = [] ∧ rest = []) ∨ s.env.inputs = .nothing :: rest ∨ ∃ w, s.env.inputs = .command w :: rest

/-- The host asserts a reset in the next step, `calls` primitive calls into it; `rest` is what it does after
that step (70_reset_and_hazards.md R342; log 9). -/
def State.HostResets (s : State) (calls : Nat) (rest : List HostInput) : Prop :=
  s.env.inputs = .reset calls :: rest ∨ ∃ w, s.env.inputs = .commandCut w calls :: rest

/-! ## The opcode space -/

/-- The 181 reserved op values (30_encoding.md R115). -/
def reservedOp (op : Nat) : Bool :=
  (0x14 ≤ op && op ≤ 0x1F) || (0x34 ≤ op && op ≤ 0x3F) || (0x44 ≤ op && op ≤ 0x47) ||
  (0x53 ≤ op && op ≤ 0x5F) || (0x62 ≤ op && op ≤ 0x6F) || (0x72 ≤ op && op ≤ 0x7F) ||
  (0x88 ≤ op && op ≤ 0x8F) || (0x98 ≤ op && op ≤ 0xFF)

/-- The must-be-zero bits of a legal op (30_encoding.md R112's table). -/
def mustBeZero (op : Nat) : Arg :=
  if op = 0x02 then 0xFFFFC000
  else if op = 0x04 then 0xFFFFFFFC
  else if op < 0x14 then 0xFFFFFFFE
  else if op = 0x60 ∨ op = 0x80 ∨ op = 0x84 then 0xE0000000
  else if op = 0x61 then 0xEFFFC000
  else if op = 0x81 then 0xEFFFFC00
  else if op = 0x82 then 0xF0000000
  else if op = 0x83 then 0xCFFFFFFF
  else if op = 0x85 ∨ op = 0x86 then 0xEFFFFFFF
  else 0xFFFFFFFF

/-- The faults a command of a legal op can raise when it is not refused (60_exceptions.md R307's table). -/
def faultRow (op : Nat) : FaultBits :=
  if op = 0x70 ∨ (0x90 ≤ op ∧ op ≤ 0x97) then 0b00001
  else if op = 0x71 then 0b00010
  else if 0x80 ≤ op ∧ op ≤ 0x82 then 0b00011
  else if 0x83 ≤ op ∧ op ≤ 0x86 then 0b00111
  else 0

/-- The bits of TX a setter's op replaces (30_encoding.md R91), one mask per byte. -/
def setterMask : Nat → Image
  | 0x00 => { b0 := 0x80, b1 := 0, b2 := 0, b3 := 0, b4 := 0 }
  | 0x01 => { b0 := 0x40, b1 := 0, b2 := 0, b3 := 0, b4 := 0 }
  | 0x02 => { b0 := 0x3F, b1 := 0xFF, b2 := 0, b3 := 0, b4 := 0 }
  | 0x03 => { b0 := 0, b1 := 0, b2 := 0x80, b3 := 0, b4 := 0 }
  | 0x04 => { b0 := 0, b1 := 0, b2 := 0x60, b3 := 0, b4 := 0 }
  | 0x05 => { b0 := 0, b1 := 0, b2 := 0x10, b3 := 0, b4 := 0 }
  | 0x06 => { b0 := 0, b1 := 0, b2 := 0x08, b3 := 0, b4 := 0 }
  | 0x07 => { b0 := 0, b1 := 0, b2 := 0x04, b3 := 0, b4 := 0 }
  | 0x08 => { b0 := 0, b1 := 0, b2 := 0x02, b3 := 0, b4 := 0 }
  | 0x09 => { b0 := 0, b1 := 0, b2 := 0x01, b3 := 0, b4 := 0 }
  | 0x0A => { b0 := 0, b1 := 0, b2 := 0, b3 := 0x80, b4 := 0 }
  | 0x0B => { b0 := 0, b1 := 0, b2 := 0, b3 := 0x40, b4 := 0 }
  | 0x0C => { b0 := 0, b1 := 0, b2 := 0, b3 := 0x20, b4 := 0 }
  | 0x0D => { b0 := 0, b1 := 0, b2 := 0, b3 := 0x10, b4 := 0 }
  | 0x0E => { b0 := 0, b1 := 0, b2 := 0, b3 := 0x08, b4 := 0 }
  | 0x0F => { b0 := 0, b1 := 0, b2 := 0, b3 := 0x04, b4 := 0 }
  | 0x10 => { b0 := 0, b1 := 0, b2 := 0, b3 := 0x02, b4 := 0 }
  | 0x11 => { b0 := 0, b1 := 0, b2 := 0, b3 := 0x01, b4 := 0 }
  | 0x12 => { b0 := 0, b1 := 0, b2 := 0, b3 := 0, b4 := 0x80 }
  | 0x13 => { b0 := 0, b1 := 0, b2 := 0, b3 := 0, b4 := 0x40 }
  | _ => { b0 := 0, b1 := 0, b2 := 0, b3 := 0, b4 := 0 }

/-- The bits a setter's op puts under its mask, for the argument `arg` (40_codec_setters.md R131 to R150): the
PLL word in two bytes, the stop level, or the one bit V. -/
def setterBits (op : Nat) (arg : Arg) : Image :=
  if op = 0x02 then { b0 := (arg >>> 8).setWidth 8, b1 := arg.setWidth 8, b2 := 0, b3 := 0, b4 := 0 }
  else if op = 0x04 then { b0 := 0, b1 := 0, b2 := arg.setWidth 8 <<< 5, b3 := 0, b4 := 0 }
  else if arg.getLsbD 0 then setterMask op
  else { b0 := 0, b1 := 0, b2 := 0, b3 := 0, b4 := 0 }

/-- The args a setter's op accepts (30_encoding.md R112, R115). -/
def setterAccepts (op : Nat) (arg : Arg) : Prop :=
  arg &&& mustBeZero op = 0 ∧ (op = 0x04 → arg.extractLsb' 0 2 ≠ 0)

/-- The op whose setter writes a DriverState boolean (10_state.md R29, 30_encoding.md R91). -/
def mirrorSetter : Mirror → Nat
  | .muted => 0x00
  | .mutedLeft => 0x08
  | .mutedRight => 0x07
  | .softMuted => 0x0E
  | .highCutControl => 0x0F
  | .stereoNoiseCancelling => 0x10
  | .standby => 0x0B
  | .forcedMono => 0x06

/-- `im` and `im'` have the same bits outside the mask `mask`. -/
def sameOutside (mask im im' : Image) : Prop :=
  im'.b0 &&& ~~~mask.b0 = im.b0 &&& ~~~mask.b0 ∧ im'.b1 &&& ~~~mask.b1 = im.b1 &&& ~~~mask.b1 ∧
  im'.b2 &&& ~~~mask.b2 = im.b2 &&& ~~~mask.b2 ∧ im'.b3 &&& ~~~mask.b3 = im.b3 &&& ~~~mask.b3 ∧
  im'.b4 &&& ~~~mask.b4 = im.b4 &&& ~~~mask.b4

/-- `im'` has the bits of `bits` under the mask `mask`. -/
def sameInside (mask bits im' : Image) : Prop :=
  im'.b0 &&& mask.b0 = bits.b0 &&& mask.b0 ∧ im'.b1 &&& mask.b1 = bits.b1 &&& mask.b1 ∧
  im'.b2 &&& mask.b2 = bits.b2 &&& mask.b2 ∧ im'.b3 &&& mask.b3 = bits.b3 &&& mask.b3 ∧
  im'.b4 &&& mask.b4 = bits.b4 &&& mask.b4

/-- `BusWrite` calls of a command that has returned (44_tuning_search.md R263's table). -/
def writesOf : Instr → Nat
  | .transmit | .toggleMute | .toggleMuteLeft | .toggleMuteRight | .toggleSoftMute | .toggleStandby
  | .toggleForcedMono | .toggleHcc | .toggleSnc => 1
  | .determineInjectionSide _ => 2
  | .selectFrequency _ m | .selectChannel _ m => if m then 5 else 3
  | .search _ m => if m then 4 else 2
  | .searchFrom _ m | .searchFromBeginning m | .searchFromEnd m => if m then 7 else 5
  | _ => 0

/-- `BusRead` calls of a command that has returned, `p` being the polls of the SEARCH inside (R263's table). -/
def readsOf (p : Nat) : Instr → Nat
  | .receiveStatus => 1
  | .determineInjectionSide _ | .selectFrequency _ _ | .selectChannel _ _ => 2
  | .search _ _ => p
  | .searchFrom _ _ | .searchFromBeginning _ | .searchFromEnd _ => 2 + p
  | _ => 0

end Sys2Proof.Machine
end

