-- ==== Sys2Proof/Certificates/Slice0/Obligations.lean ====
section
/-! DEFINITION. The statements for the provers. Each docstring names the rules of spec/ a statement
formalises; the expected next states are written in the vocabulary of Safety.lean (`ended`, `withCalls`,
`EncodedAs`, …) with the masks and numbers of the rules, so that each equation gives an instruction's result,
its frame and its completion at once. -/

open Sys2Proof Sys2Proof.Machine

/-! ## Encoding and the command port -/

/-- A few command words written out in the spec decode to the commands they stand for (40_codec_setters.md
R131, R135; 42_codec_frequency.md R203, R204; 44_tuning_search.md R244, R246, R250, R259; 45_toggles.md R288). -/
def Obligations.WrittenWordsDecode : Prop :=
  decode 0x0000000001 = .ok (.setMute true) ∧
  decode 0x020000339B = .ok (.setPll 0x339B) ∧
  decode 0x0400000003 = .ok (.setStopLevel 3) ∧
  decode 0x5200000000 = .ok .getstFault ∧
  decode 0x60153D3F60 = .ok (.encodeFreq 87900000 .high) ∧
  decode 0x61000029CF = .ok (.decodeFreq 0x29CF .low) ∧
  decode 0x7100000000 = .ok .receiveStatus ∧
  decode 0x80153D3F60 = .ok (.selectFrequency 87900000 true) ∧
  decode 0x81000000C8 = .ok (.selectChannel 200 false) ∧
  decode 0x8320000000 = .ok (.search .up false) ∧
  decode 0x8610000000 = .ok (.searchFromEnd true) ∧
  decode 0x9700000000 = .ok .toggleSnc

/-- Every legal command survives encoding and decoding (30_encoding.md R111, R112, R114). -/
def Obligations.DecodeOfEncode : Prop := ∀ i : Instr, i.wf = true → decode (encode i) = .ok i

/-- A word the decoder accepts is the encoding of the command it gives, and that command is legal: no two
words are one command (30_encoding.md R111, R112, R115). -/
def Obligations.EncodeOfDecode : Prop :=
  ∀ (w : CmdWord) (i : Instr), decode w = .ok i → i.wf = true ∧ encode i = w

/-- The reserved ops are 181; a word is refused with IllegalCommand exactly when its op is reserved, whatever
its arg, and with IllegalOperand exactly when its op is legal and its arg is not; a refused word does nothing
but set the fault's bit (30_encoding.md R115). -/
def Obligations.IllegalWordsRefused : Prop :=
  ((List.range 256).filter reservedOp).length = 181 ∧
  (∀ (op : Byte) (arg : Arg) (s : State), reservedOp op.toNat = true →
    decode (CmdWord.make op arg) = .error .illegalCommand ∧
    runWord (CmdWord.make op arg) s = .next (s.ended 0b01000 0)) ∧
  (∀ (op : Byte) (arg : Arg) (s : State), reservedOp op.toNat = false →
    (arg &&& mustBeZero op.toNat ≠ 0 ∨ (op = 0x04 ∧ arg.extractLsb' 0 2 = 0)) →
    decode (CmdWord.make op arg) = .error .illegalOperand ∧
    runWord (CmdWord.make op arg) s = .next (s.ended 0b10000 0)) ∧
  (∀ (op : Byte) (arg : Arg), reservedOp op.toNat = false →
    ¬(arg &&& mustBeZero op.toNat ≠ 0 ∨ (op = 0x04 ∧ arg.extractLsb' 0 2 = 0)) →
    ∃ i, decode (CmdWord.make op arg) = .ok i ∧ i.opcode = op)

/-- An idle block takes the command word the host presents next and runs the command it decodes to
(30_encoding.md R110); the word is used up, and nothing else happens around `exec`. -/
def Obligations.StepRunsDecoded : Prop :=
  ∀ (s : State) (w : CmdWord) (rest : List HostInput) (i : Instr),
    s.phase = .idle → s.env.inputs = .command w :: rest → decode w = .ok i →
    step s = exec i (s.withInputs rest)

/-- Refusal (60_exceptions.md R305): the fault's bit of `res` and FAULT is set, `val` is 0, the phase is IDLE
at once, and no other state changes and no primitive is called; op is checked before arg, so the two refusal
faults never occur together; and the next command is accepted normally. -/
def Obligations.RefusalDoesNothingElse : Prop :=
  (∀ (s : State) (w : CmdWord) (rest : List HostInput), s.phase = .idle → s.env.inputs = .command w :: rest →
    (decode w = .error .illegalCommand → step s = .next ((s.withInputs rest).ended 0b01000 0)) ∧
    (decode w = .error .illegalOperand → step s = .next ((s.withInputs rest).ended 0b10000 0))) ∧
  (∀ (op : Byte) (arg : Arg), reservedOp op.toNat = true →
    decode (CmdWord.make op arg) = .error .illegalCommand) ∧
  (∀ (s t : State) (w w' : CmdWord) (rest : List HostInput) (e : DecodeError) (i : Instr),
    s.phase = .idle → s.env.inputs = .command w :: .command w' :: rest → decode w = .error e →
    decode w' = .ok i → step s = .next t → step t = exec i (t.withInputs rest))

/-- The command port while nothing is accepted (30_encoding.md R110, 93_implementation_defined.md I19): an idle
block the host does nothing to does not move, and while a search polls a presented command is not accepted and
has no effect: the step is the one the search takes anyway, and the command is gone. MODEL'S CHOICE, log 8:
the host does one thing a step, and an empty list of inputs stands for a host that does nothing any more. -/
def Obligations.PortWaits : Prop :=
  (∀ s : State, s.phase = .idle → s.env.inputs = [] → step s = .next s) ∧
  (∀ (s : State) (rest : List HostInput), s.phase = .idle → s.env.inputs = .nothing :: rest →
    step s = .next (s.withInputs rest)) ∧
  (∀ (s : State) (rest : List HostInput), s.phase = .sPoll → s.HostLeavesAlone rest →
    step s = .next ((s.searchPolls).withInputs rest) ∧ s.searchPolls.env.inputs = s.env.inputs)

/-! ## Reset -/

/-- The reset values of the table of 70_reset_and_hazards.md R340 (10_state.md R48), for every value `p` of the
open parameters; and reset calls no bus primitive (R341). MODEL'S CHOICES: the counter of bus
calls (log 5) and the trace (log 11) are the model's own fields, and R341 is said by an empty trace and a counter
at 0. -/
def Obligations.ResetValues : Prop :=
  ∀ p : Params,
    (State.resetWith p).tx =
      { b0 := 0x00, b1 := 0x00, b2 := if p.resetSud then 0xB0 else 0x30, b3 := 0x10, b4 := 0x00 } ∧
    (State.resetWith p).rx = p.resetRx ∧
    (∀ m, (State.resetWith p).mirror m = false) ∧
    (State.resetWith p).side = .high ∧ (State.resetWith p).freqNom = 0 ∧
    (State.resetWith p).fault = 0 ∧ (State.resetWith p).polls = 0 ∧
    (State.resetWith p).phase = .idle ∧
    (State.resetWith p).env.trace = [] ∧ (State.resetWith p).env.busCalls = 0

/-- The model's reset state is the spec's for the build with RESET_SUD = 0, RESET_RX all zeros and MAX_POLLS
left open, and no result stands. MODEL'S CHOICES: logs 1, 2, 4 and 6. -/
def Obligations.ResetStateOfModel : Prop :=
  State.reset = State.resetWith
    { resetSud := false, resetRx := { b0 := 0, b1 := 0, b2 := 0, b3 := 0, b4 := 0 }, maxPolls := none } ∧
  State.reset.pollLimit = Config.maxPolls ∧ State.reset.res = 0 ∧ State.reset.result = none

/-- A hardware reset of an idle block puts every piece of state at its reset value for the parameters the block
was built with, returns nothing and calls no primitive (70_reset_and_hazards.md R342, R345 (3)). MODEL'S
CHOICES: log 9 (reset is a host input, and the host's list and the bus's past outlive it) and logs 3 and 4 (the
values `resetWith` gives the latches and the model's own fields). The values of RESET_SUD and RESET_RX that
logs 1 and 2 choose for `State.reset` play no part: the block's own parameters hold. -/
def Obligations.HardwareReset : Prop :=
  ∀ (s : State) (n : Nat) (rest : List HostInput), s.phase = .idle → s.env.inputs = .reset n :: rest →
    step s = .next { State.resetWith s.params with env := { s.env with inputs := rest } }

/-- A hardware reset in the middle of a command abandons it (70_reset_and_hazards.md R342): the calls made so
far stand in the trace, no further one is made, no result is returned, and the state is the reset state for the
block's own parameters. So for a word that is running, wherever the reset falls, after its last primitive call
or in a command that makes none too; and so for a search that rests in S_POLL, which has no other way out when
`ready` never comes (R355). MODEL'S CHOICES: log 9 (a reset is a host input, counted in primitive calls) and
logs 3 and 4 (the values `resetWith` gives the latches and the model's own fields). -/
def Obligations.ResetMidCommand : Prop :=
  (∀ (s : State) (w : CmdWord) (n : Nat) (rest : List HostInput),
    s.phase = .idle → s.env.inputs = .commandCut w n :: rest →
    ∃ t, runWord w (s.withInputs rest) = .next t ∧
      step s = .next (({ State.resetWith s.params with env := { s.env with inputs := rest } }).withCalls
        ((newCalls s t).take n))) ∧
  (∀ (s : State) (n : Nat) (rest : List HostInput), s.phase = .sPoll → s.HostResets n rest →
    step s = .next (({ State.resetWith s.params with env := { s.env with inputs := rest } }).withCalls
      ((newCalls s s.searchPolls).take n))) ∧
  (∀ p : Params, (State.resetWith p).result = none)

/-! ## Setters -/

/-- The eight one-bit setters whose field has a DriverState mirror (40_codec_setters.md R131, R137 to R139,
R142, R145 to R147): word, bit under its mask, mirror, and nothing else. -/
def Obligations.MirroredSetters : Prop :=
  (EncodedAs 0x00 0xFFFFFFFE (fun arg => .setMute (arg.getLsbD 0)) ∧ ∀ (v : Bool) (s : State),
    exec (.setMute v) s = .next ({ s with
      tx := { s.tx with b0 := (s.tx.b0 &&& 0x7F) ||| (Byte.ofBit v <<< 7) }, muted := v }.ended 0 0)) ∧
  (EncodedAs 0x06 0xFFFFFFFE (fun arg => .setForcedMono (arg.getLsbD 0)) ∧ ∀ (v : Bool) (s : State),
    exec (.setForcedMono v) s = .next ({ s with
      tx := { s.tx with b2 := (s.tx.b2 &&& 0xF7) ||| (Byte.ofBit v <<< 3) }, forcedMono := v }.ended 0 0)) ∧
  (EncodedAs 0x07 0xFFFFFFFE (fun arg => .setMuteRight (arg.getLsbD 0)) ∧ ∀ (v : Bool) (s : State),
    exec (.setMuteRight v) s = .next ({ s with
      tx := { s.tx with b2 := (s.tx.b2 &&& 0xFB) ||| (Byte.ofBit v <<< 2) }, mutedRight := v }.ended 0 0)) ∧
  (EncodedAs 0x08 0xFFFFFFFE (fun arg => .setMuteLeft (arg.getLsbD 0)) ∧ ∀ (v : Bool) (s : State),
    exec (.setMuteLeft v) s = .next ({ s with
      tx := { s.tx with b2 := (s.tx.b2 &&& 0xFD) ||| (Byte.ofBit v <<< 1) }, mutedLeft := v }.ended 0 0)) ∧
  (EncodedAs 0x0B 0xFFFFFFFE (fun arg => .setStandby (arg.getLsbD 0)) ∧ ∀ (v : Bool) (s : State),
    exec (.setStandby v) s = .next ({ s with
      tx := { s.tx with b3 := (s.tx.b3 &&& 0xBF) ||| (Byte.ofBit v <<< 6) }, standby := v }.ended 0 0)) ∧
  (EncodedAs 0x0E 0xFFFFFFFE (fun arg => .setSoftMute (arg.getLsbD 0)) ∧ ∀ (v : Bool) (s : State),
    exec (.setSoftMute v) s = .next ({ s with
      tx := { s.tx with b3 := (s.tx.b3 &&& 0xF7) ||| (Byte.ofBit v <<< 3) }, softMuted := v }.ended 0 0)) ∧
  (EncodedAs 0x0F 0xFFFFFFFE (fun arg => .setHcc (arg.getLsbD 0)) ∧ ∀ (v : Bool) (s : State),
    exec (.setHcc v) s = .next ({ s with
      tx := { s.tx with b3 := (s.tx.b3 &&& 0xFB) ||| (Byte.ofBit v <<< 2) }, highCutControl := v }.ended 0 0)) ∧
  (EncodedAs 0x10 0xFFFFFFFE (fun arg => .setSnc (arg.getLsbD 0)) ∧ ∀ (v : Bool) (s : State),
    exec (.setSnc v) s = .next ({ s with
      tx := { s.tx with b3 := (s.tx.b3 &&& 0xFD) ||| (Byte.ofBit v <<< 1) }
      stereoNoiseCancelling := v }.ended 0 0))

/-- The nine one-bit setters without a mirror (40_codec_setters.md R132, R134, R140, R141, R143, R144, R148 to
R150): word, bit under its mask, and nothing else. -/
def Obligations.PlainSetters : Prop :=
  (EncodedAs 0x01 0xFFFFFFFE (fun arg => .setSearchMode (arg.getLsbD 0)) ∧ ∀ (v : Bool) (s : State),
    exec (.setSearchMode v) s = .next ({ s with
      tx := { s.tx with b0 := (s.tx.b0 &&& 0xBF) ||| (Byte.ofBit v <<< 6) } }.ended 0 0)) ∧
  (EncodedAs 0x03 0xFFFFFFFE (fun arg => .setSearchDir (arg.getLsbD 0)) ∧ ∀ (v : Bool) (s : State),
    exec (.setSearchDir v) s = .next ({ s with
      tx := { s.tx with b2 := (s.tx.b2 &&& 0x7F) ||| (Byte.ofBit v <<< 7) } }.ended 0 0)) ∧
  (EncodedAs 0x09 0xFFFFFFFE (fun arg => .setAux1 (arg.getLsbD 0)) ∧ ∀ (v : Bool) (s : State),
    exec (.setAux1 v) s = .next ({ s with
      tx := { s.tx with b2 := (s.tx.b2 &&& 0xFE) ||| (Byte.ofBit v <<< 0) } }.ended 0 0)) ∧
  (EncodedAs 0x0A 0xFFFFFFFE (fun arg => .setAux2 (arg.getLsbD 0)) ∧ ∀ (v : Bool) (s : State),
    exec (.setAux2 v) s = .next ({ s with
      tx := { s.tx with b3 := (s.tx.b3 &&& 0x7F) ||| (Byte.ofBit v <<< 7) } }.ended 0 0)) ∧
  (EncodedAs 0x0C 0xFFFFFFFE (fun arg => .setBand (arg.getLsbD 0)) ∧ ∀ (v : Bool) (s : State),
    exec (.setBand v) s = .next ({ s with
      tx := { s.tx with b3 := (s.tx.b3 &&& 0xDF) ||| (Byte.ofBit v <<< 5) } }.ended 0 0)) ∧
  (EncodedAs 0x0D 0xFFFFFFFE (fun arg => .setXtal (arg.getLsbD 0)) ∧ ∀ (v : Bool) (s : State),
    exec (.setXtal v) s = .next ({ s with
      tx := { s.tx with b3 := (s.tx.b3 &&& 0xEF) ||| (Byte.ofBit v <<< 4) } }.ended 0 0)) ∧
  (EncodedAs 0x11 0xFFFFFFFE (fun arg => .setSearchInd (arg.getLsbD 0)) ∧ ∀ (v : Bool) (s : State),
    exec (.setSearchInd v) s = .next ({ s with
      tx := { s.tx with b3 := (s.tx.b3 &&& 0xFE) ||| (Byte.ofBit v <<< 0) } }.ended 0 0)) ∧
  (EncodedAs 0x12 0xFFFFFFFE (fun arg => .setPllRef (arg.getLsbD 0)) ∧ ∀ (v : Bool) (s : State),
    exec (.setPllRef v) s = .next ({ s with
      tx := { s.tx with b4 := (s.tx.b4 &&& 0x7F) ||| (Byte.ofBit v <<< 7) } }.ended 0 0)) ∧
  (EncodedAs 0x13 0xFFFFFFFE (fun arg => .setDeemph (arg.getLsbD 0)) ∧ ∀ (v : Bool) (s : State),
    exec (.setDeemph v) s = .next ({ s with
      tx := { s.tx with b4 := (s.tx.b4 &&& 0xBF) ||| (Byte.ofBit v <<< 6) } }.ended 0 0))

/-- SET_PLL (40_codec_setters.md R133): both bytes of the word together, `mute` and `search_mode` preserved,
`freq_nom` not updated. -/
def Obligations.SetPll : Prop :=
  EncodedAs 0x02 0xFFFFC000 (fun arg => .setPll (arg.extractLsb' 0 14)) ∧
  ∀ (w : PllWord) (s : State),
    exec (.setPll w) s = .next ({ s with tx := { s.tx with
      b0 := (s.tx.b0 &&& 0xC0) ||| (w >>> 8).setWidth 8, b1 := w.setWidth 8 } }.ended 0 0)

/-- SET_STOP_LEVEL (40_codec_setters.md R135): the two-bit field for the codes 1, 2 and 3; the reserved code 0
is refused, as a word and as a command, and code 0 can never enter TX. -/
def Obligations.SetStopLevel : Prop :=
  (∀ (arg : Arg) (s : State), (arg &&& 0xFFFFFFFC ≠ 0 ∨ arg.extractLsb' 0 2 = 0) →
    runWord (CmdWord.make 0x04 arg) s = .next (s.ended 0b10000 0)) ∧
  (∀ (arg : Arg) (s : State), arg &&& 0xFFFFFFFC = 0 → arg.extractLsb' 0 2 ≠ 0 →
    runWord (CmdWord.make 0x04 arg) s = exec (.setStopLevel (arg.extractLsb' 0 2)) s) ∧
  (∀ (l : BitVec 2) (s : State), l ≠ 0 →
    exec (.setStopLevel l) s = .next ({ s with
      tx := { s.tx with b2 := (s.tx.b2 &&& 0x9F) ||| (l.setWidth 8 <<< 5) } }.ended 0 0)) ∧
  (∀ s : State, exec (.setStopLevel 0) s = .next (s.ended 0b10000 0)) ∧
  (∀ (l : BitVec 2) (b : Byte), l ≠ 0 → ((b &&& 0x9F) ||| (l.setWidth 8 <<< 5)) &&& 0x60 ≠ 0)

/-- SET_INJ_SIDE (40_codec_setters.md R136): bit and `side` together, 1 being HIGH. -/
def Obligations.SetInjSide : Prop :=
  EncodedAs 0x05 0xFFFFFFFE (fun arg => .setInjSide (arg.getLsbD 0)) ∧
  ∀ (v : Bool) (s : State),
    exec (.setInjSide v) s = .next ({ s with
      tx := { s.tx with b2 := (s.tx.b2 &&& 0xEF) ||| (Byte.ofBit v <<< 4) }
      side := if v then .high else .low }.ended 0 0)

/-- What all setters share (40_codec_setters.md R130): an accepted setter word gives exactly the bits of its
mask the operand's value and keeps every other bit of TX, writes its own mirror with the bit and keeps the
mirrors in step with TX, calls no primitive, returns 0, leaves RX, `freq_nom`, the other mirrors and the latches
alone, and is idempotent; a refused one raises IllegalOperand and has no other effect. -/
def Obligations.SettersShared : Prop :=
  ∀ (op : Byte) (arg : Arg) (s : State), op.toNat < 0x14 →
    ∃ t, runWord (CmdWord.make op arg) s = .next t ∧
      (¬setterAccepts op.toNat arg → t = s.ended 0b10000 0) ∧
      (setterAccepts op.toNat arg →
        t.res = 0 ∧ t.fault = s.fault ∧
        sameInside (setterMask op.toNat) (setterBits op.toNat arg) t.tx ∧
        (∀ m, op.toNat = mirrorSetter m → t.mirror m = arg.getLsbD 0) ∧
        (op = 0x05 → t.side = if arg.getLsbD 0 then .high else .low)) ∧
      sameOutside (setterMask op.toNat) s.tx t.tx ∧
      (∀ m, op.toNat ≠ mirrorSetter m → t.mirror m = s.mirror m) ∧
      (op ≠ 0x05 → t.side = s.side) ∧
      (s.MirrorsAgree → t.MirrorsAgree) ∧ (s.SideAgrees → t.SideAgrees) ∧
      t.env = s.env ∧ t.params = s.params ∧ t.rx = s.rx ∧ t.freqNom = s.freqNom ∧ t.levHi = s.levHi ∧
      t.levLo = s.levLo ∧ t.blf = s.blf ∧ t.polls = s.polls ∧
      t.result = some { res := t.res, val := 0 } ∧
      runWord (CmdWord.make op arg) t = .next t

/-! ## Getters -/

/-- The first ten getters of TX fields (41_codec_getters.md R161 to R170): the field as it stands in TX,
zero-extended, and nothing written. -/
def Obligations.TxGettersFirst : Prop :=
  (EncodedAs 0x20 0xFFFFFFFF (fun _ => .getMute) ∧ ∀ s : State,
    exec .getMute s = .next (s.ended 0 (((s.tx.b0 &&& 0x80) >>> 7).setWidth 32))) ∧
  (EncodedAs 0x21 0xFFFFFFFF (fun _ => .getSearchMode) ∧ ∀ s : State,
    exec .getSearchMode s = .next (s.ended 0 (((s.tx.b0 &&& 0x40) >>> 6).setWidth 32))) ∧
  (EncodedAs 0x22 0xFFFFFFFF (fun _ => .getPll) ∧ ∀ s : State,
    exec .getPll s =
      .next (s.ended 0 (((s.tx.b0 &&& 0x3F).setWidth 32 <<< 8) ||| s.tx.b1.setWidth 32))) ∧
  (EncodedAs 0x23 0xFFFFFFFF (fun _ => .getSearchDir) ∧ ∀ s : State,
    exec .getSearchDir s = .next (s.ended 0 (((s.tx.b2 &&& 0x80) >>> 7).setWidth 32))) ∧
  (EncodedAs 0x24 0xFFFFFFFF (fun _ => .getStopLevel) ∧ ∀ s : State,
    exec .getStopLevel s = .next (s.ended 0 (((s.tx.b2 &&& 0x60) >>> 5).setWidth 32))) ∧
  (EncodedAs 0x25 0xFFFFFFFF (fun _ => .getInjSide) ∧ ∀ s : State,
    exec .getInjSide s = .next (s.ended 0 (((s.tx.b2 &&& 0x10) >>> 4).setWidth 32))) ∧
  (EncodedAs 0x26 0xFFFFFFFF (fun _ => .getForcedMono) ∧ ∀ s : State,
    exec .getForcedMono s = .next (s.ended 0 (((s.tx.b2 &&& 0x08) >>> 3).setWidth 32))) ∧
  (EncodedAs 0x27 0xFFFFFFFF (fun _ => .getMuteRight) ∧ ∀ s : State,
    exec .getMuteRight s = .next (s.ended 0 (((s.tx.b2 &&& 0x04) >>> 2).setWidth 32))) ∧
  (EncodedAs 0x28 0xFFFFFFFF (fun _ => .getMuteLeft) ∧ ∀ s : State,
    exec .getMuteLeft s = .next (s.ended 0 (((s.tx.b2 &&& 0x02) >>> 1).setWidth 32))) ∧
  (EncodedAs 0x29 0xFFFFFFFF (fun _ => .getAux1) ∧ ∀ s : State,
    exec .getAux1 s = .next (s.ended 0 (((s.tx.b2 &&& 0x01) >>> 0).setWidth 32)))

/-- The other ten getters of TX fields (41_codec_getters.md R171 to R180). -/
def Obligations.TxGettersSecond : Prop :=
  (EncodedAs 0x2A 0xFFFFFFFF (fun _ => .getAux2) ∧ ∀ s : State,
    exec .getAux2 s = .next (s.ended 0 (((s.tx.b3 &&& 0x80) >>> 7).setWidth 32))) ∧
  (EncodedAs 0x2B 0xFFFFFFFF (fun _ => .getStandby) ∧ ∀ s : State,
    exec .getStandby s = .next (s.ended 0 (((s.tx.b3 &&& 0x40) >>> 6).setWidth 32))) ∧
  (EncodedAs 0x2C 0xFFFFFFFF (fun _ => .getBand) ∧ ∀ s : State,
    exec .getBand s = .next (s.ended 0 (((s.tx.b3 &&& 0x20) >>> 5).setWidth 32))) ∧
  (EncodedAs 0x2D 0xFFFFFFFF (fun _ => .getXtal) ∧ ∀ s : State,
    exec .getXtal s = .next (s.ended 0 (((s.tx.b3 &&& 0x10) >>> 4).setWidth 32))) ∧
  (EncodedAs 0x2E 0xFFFFFFFF (fun _ => .getSoftMute) ∧ ∀ s : State,
    exec .getSoftMute s = .next (s.ended 0 (((s.tx.b3 &&& 0x08) >>> 3).setWidth 32))) ∧
  (EncodedAs 0x2F 0xFFFFFFFF (fun _ => .getHcc) ∧ ∀ s : State,
    exec .getHcc s = .next (s.ended 0 (((s.tx.b3 &&& 0x04) >>> 2).setWidth 32))) ∧
  (EncodedAs 0x30 0xFFFFFFFF (fun _ => .getSnc) ∧ ∀ s : State,
    exec .getSnc s = .next (s.ended 0 (((s.tx.b3 &&& 0x02) >>> 1).setWidth 32))) ∧
  (EncodedAs 0x31 0xFFFFFFFF (fun _ => .getSearchInd) ∧ ∀ s : State,
    exec .getSearchInd s = .next (s.ended 0 (((s.tx.b3 &&& 0x01) >>> 0).setWidth 32))) ∧
  (EncodedAs 0x32 0xFFFFFFFF (fun _ => .getPllRef) ∧ ∀ s : State,
    exec .getPllRef s = .next (s.ended 0 (((s.tx.b4 &&& 0x80) >>> 7).setWidth 32))) ∧
  (EncodedAs 0x33 0xFFFFFFFF (fun _ => .getDeemph) ∧ ∀ s : State,
    exec .getDeemph s = .next (s.ended 0 (((s.tx.b4 &&& 0x40) >>> 6).setWidth 32)))

/-- The four getters of RX fields (41_codec_getters.md R181 to R184): what the last complete read stored. -/
def Obligations.RxGetters : Prop :=
  (EncodedAs 0x40 0xFFFFFFFF (fun _ => .getrxReady) ∧ ∀ s : State,
    exec .getrxReady s = .next (s.ended 0 (((s.rx.b0 &&& 0x80) >>> 7).setWidth 32))) ∧
  (EncodedAs 0x41 0xFFFFFFFF (fun _ => .getrxBandLimit) ∧ ∀ s : State,
    exec .getrxBandLimit s = .next (s.ended 0 (((s.rx.b0 &&& 0x40) >>> 6).setWidth 32))) ∧
  (EncodedAs 0x42 0xFFFFFFFF (fun _ => .getrxLevel) ∧ ∀ s : State,
    exec .getrxLevel s = .next (s.ended 0 (((s.rx.b3 &&& 0xF0) >>> 4).setWidth 32))) ∧
  (EncodedAs 0x43 0xFFFFFFFF (fun _ => .getrxPll) ∧ ∀ s : State,
    exec .getrxPll s =
      .next (s.ended 0 (((s.rx.b0 &&& 0x3F).setWidth 32 <<< 8) ||| s.rx.b1.setWidth 32)))

/-- The eleven getters of DriverState and FAULT (41_codec_getters.md R185 to R195): the value as it stood
when the command was accepted, and reading clears nothing. -/
def Obligations.StateGetters : Prop :=
  (EncodedAs 0x48 0xFFFFFFFF (fun _ => .getstMuted) ∧ ∀ s : State,
    exec .getstMuted s = .next (s.ended 0 (if s.muted then 1 else 0))) ∧
  (EncodedAs 0x49 0xFFFFFFFF (fun _ => .getstMutedLeft) ∧ ∀ s : State,
    exec .getstMutedLeft s = .next (s.ended 0 (if s.mutedLeft then 1 else 0))) ∧
  (EncodedAs 0x4A 0xFFFFFFFF (fun _ => .getstMutedRight) ∧ ∀ s : State,
    exec .getstMutedRight s = .next (s.ended 0 (if s.mutedRight then 1 else 0))) ∧
  (EncodedAs 0x4B 0xFFFFFFFF (fun _ => .getstSoftMuted) ∧ ∀ s : State,
    exec .getstSoftMuted s = .next (s.ended 0 (if s.softMuted then 1 else 0))) ∧
  (EncodedAs 0x4C 0xFFFFFFFF (fun _ => .getstHcc) ∧ ∀ s : State,
    exec .getstHcc s = .next (s.ended 0 (if s.highCutControl then 1 else 0))) ∧
  (EncodedAs 0x4D 0xFFFFFFFF (fun _ => .getstSnc) ∧ ∀ s : State,
    exec .getstSnc s = .next (s.ended 0 (if s.stereoNoiseCancelling then 1 else 0))) ∧
  (EncodedAs 0x4E 0xFFFFFFFF (fun _ => .getstStandby) ∧ ∀ s : State,
    exec .getstStandby s = .next (s.ended 0 (if s.standby then 1 else 0))) ∧
  (EncodedAs 0x4F 0xFFFFFFFF (fun _ => .getstForcedMono) ∧ ∀ s : State,
    exec .getstForcedMono s = .next (s.ended 0 (if s.forcedMono then 1 else 0))) ∧
  (EncodedAs 0x50 0xFFFFFFFF (fun _ => .getstSide) ∧ ∀ s : State,
    exec .getstSide s = .next (s.ended 0 (if s.side = .high then 1 else 0))) ∧
  (EncodedAs 0x51 0xFFFFFFFF (fun _ => .getstFreq) ∧ ∀ s : State,
    exec .getstFreq s = .next (s.ended 0 s.freqNom)) ∧
  (EncodedAs 0x52 0xFFFFFFFF (fun _ => .getstFault) ∧ ∀ s : State,
    exec .getstFault s = .next (s.ended 0 (s.fault.setWidth 32)))

/-! ## The converter -/

/-- The encoder's function (42_codec_frequency.md R201): round half up on integers, floor division, 14 bits
kept, for every integer and both sides; with the rule's own tie, negative and in-band examples. -/
def Obligations.EncoderFunction : Prop :=
  (∀ f : Int, ((enc f .high).toNat : Int) = (f + 225000 + 4096) / 8192 % 16384) ∧
  (∀ f : Int, ((enc f .low).toNat : Int) = (f - 225000 + 4096) / 8192 % 16384) ∧
  (∀ f : Int, (f + 225000) % 8192 = 4096 →
    ((enc f .high).toNat : Int) = ((f + 225000) / 8192 + 1) % 16384) ∧
  enc 87327000 .high = 10688 ∧ enc 0 .low = 0x3FE5 ∧ enc 133988632 .high = 0

/-- The decoder's function (42_codec_frequency.md R202): exact, with its ranges, negative exactly for the
HIGH words up to 27. -/
def Obligations.DecoderFunction : Prop :=
  ∀ w : PllWord,
    dec w .high = (w.toNat : Int) * 8192 - 225000 ∧ dec w .low = (w.toNat : Int) * 8192 + 225000 ∧
    -225000 ≤ dec w .high ∧ dec w .high ≤ 133984536 ∧ 225000 ≤ dec w .low ∧ dec w .low ≤ 134434536 ∧
    (dec w .high < 0 ↔ w.toNat ≤ 27)

/-- ENCODE_FREQ (42_codec_frequency.md R203): the word into TX and into `val`; `inj_side`, `side` and
`freq_nom` are not written. -/
def Obligations.EncodeFreq : Prop :=
  EncodedAs 0x60 0xE0000000 (fun arg =>
    .encodeFreq (arg.extractLsb' 0 28) (if arg.getLsbD 28 then .high else .low)) ∧
  ∀ (f : FreqArg) (x : Side) (s : State),
    exec (.encodeFreq f x) s = .next ({ s with tx := { s.tx with
        b0 := (s.tx.b0 &&& 0xC0) ||| (enc f.toNat x >>> 8).setWidth 8
        b1 := (enc f.toNat x).setWidth 8 } }.ended 0 ((enc f.toNat x).setWidth 32))

/-- DECODE_FREQ (42_codec_frequency.md R204): the frequency in 32-bit two's complement, nothing written. -/
def Obligations.DecodeFreq : Prop :=
  EncodedAs 0x61 0xEFFFC000 (fun arg =>
    .decodeFreq (arg.extractLsb' 0 14) (if arg.getLsbD 28 then .high else .low)) ∧
  ∀ (w : PllWord) (x : Side) (s : State), ∃ val : BitVec 32,
    exec (.decodeFreq w x) s = .next (s.ended 0 val) ∧ val.toInt = dec w x

/-- Laws of the converter's arithmetic (42_codec_frequency.md R205 (e), (f), (g)): monotone, one step per
8192 Hz, the two sides 54 or 55 steps apart, and the decoder's sides 450000 Hz apart. -/
def Obligations.ConverterLaws : Prop :=
  (∀ (f g : Int) (x : Side), f ≤ g → encUnwrapped f x ≤ encUnwrapped g x) ∧
  (∀ (f : Int) (x : Side), encUnwrapped (f + 8192) x = encUnwrapped f x + 1) ∧
  (∀ (f : Int) (x : Side), enc (f + 8192) x = enc f x + 1) ∧
  (∀ f : Int, encUnwrapped f .high - encUnwrapped f .low = 54 ∨
    encUnwrapped f .high - encUnwrapped f .low = 55) ∧
  (∀ w : PllWord, dec w .high + 450000 = dec w .low)

/-- Bounds (42_codec_frequency.md R206): every intermediate of every frequency operand fits 32-bit signed
arithmetic, W stays within -82 and 32850, and no value written to `freq_nom` is changed by its 32 bits. -/
def Obligations.ConverterBounds : Prop :=
  (∀ (f : FreqArg) (x : Side) (g : Int), (f.toNat : Int) - 450000 ≤ g → g ≤ f.toNat + 450000 →
    -675000 ≤ encNumerator g x ∧ encNumerator g x + 4096 ≤ 269114551 ∧
    -82 ≤ encUnwrapped g x ∧ encUnwrapped g x ≤ 32850 ∧ (sext32 g).toInt = g) ∧
  (∀ (w : PllWord) (x : Side), -225000 ≤ dec w x ∧ dec w x ≤ 134434536 ∧ (sext32 (dec w x)).toInt = dec w x)

/-- `freq_nom` stays within -225000 and 268535455 at every step (42_codec_frequency.md R206). -/
def Obligations.FreqNomStaysBounded : Prop :=
  ∀ s t : State, s.FreqBounded → step s = .next t → t.FreqBounded

/-- In-range condition and round trip (42_codec_frequency.md R207), with n the numerator: the encoder does not
overflow exactly for -4096 <= n <= 134213631; the FM band, its probes and its nudges are in range; in range
the round trip errs by 4096 - ((n + 4096) mod 8192), the extreme +4096 exactly at ties; every word comes back;
out of range the round trip fails by a multiple of 134217728 Hz. -/
def Obligations.RoundTrip : Prop :=
  (∀ f : Int, ((0 ≤ encUnwrapped f .high ∧ encUnwrapped f .high ≤ 16383) ↔
    (-229096 ≤ f ∧ f ≤ 133988631))) ∧
  (∀ f : Int, ((0 ≤ encUnwrapped f .low ∧ encUnwrapped f .low ≤ 16383) ↔
    (220904 ≤ f ∧ f ≤ 134438631))) ∧
  (∀ (f : Int) (x : Side), ((0 ≤ encUnwrapped f x ∧ encUnwrapped f x ≤ 16383) ↔
    (-4096 ≤ encNumerator f x ∧ encNumerator f x ≤ 134213631))) ∧
  (∀ (f : Int) (x : Side), 87000000 ≤ f → f ≤ 108000000 →
    10593 ≤ encUnwrapped f x ∧ encUnwrapped f x ≤ 13211 ∧
    ∀ g : Int, f - 450000 ≤ g → g ≤ f + 450000 → 0 ≤ encUnwrapped g x ∧ encUnwrapped g x ≤ 16383) ∧
  enc 87000000 .low = 10593 ∧ enc 108000000 .high = 13211 ∧
  (∀ (f : Int) (x : Side), 0 ≤ encUnwrapped f x → encUnwrapped f x ≤ 16383 →
    dec (enc f x) x - f = 4096 - (encNumerator f x + 4096) % 8192 ∧
    -4095 ≤ dec (enc f x) x - f ∧ dec (enc f x) x - f ≤ 4096 ∧
    (dec (enc f x) x - f = 4096 ↔ encNumerator f x % 8192 = 4096)) ∧
  (∀ (w : PllWord) (x : Side), enc (dec w x) x = w) ∧
  (∀ (f : Int) (x : Side), ∃ k : Int,
    dec (enc f x) x - f = 4096 - (encNumerator f x + 4096) % 8192 - k * 134217728 ∧
    (k = 0 ↔ 0 ≤ encUnwrapped f x ∧ encUnwrapped f x ≤ 16383))

/-- Assembly of the PLL word (30_encoding.md R103): packing and unpacking by the rule's masks, `mute` and
`search_mode` preserved, the other bytes too, and unpacking undoes packing. -/
def Obligations.PllWordAssembly : Prop :=
  ∀ (w : PllWord) (im : Image),
    putPllWord w im = { im with b0 := (im.b0 &&& 0xC0) ||| (w >>> 8).setWidth 8, b1 := w.setWidth 8 } ∧
    getPllWord im = (((im.b0 &&& 0x3F).setWidth 14 <<< 8) ||| im.b1.setWidth 14) ∧
    (w >>> 8).toNat < 64 ∧ getPllWord (putPllWord w im) = w

/-! ## The bus session -/

/-- TRANSMIT (43_bus_session.md R221): one write of the whole of TX to 0x60 and one settle delay, whatever the
bus answers; a failed write sets its fault bit and changes nothing else. -/
def Obligations.Transmit : Prop :=
  EncodedAs 0x70 0xFFFFFFFF (fun _ => .transmit) ∧
  ∀ s : State,
    exec .transmit s = .next ((s.withCalls (writeCalls s.tx (s.writeAnswerAt 0 0))).ended
      (writeFault (s.writeAnswerAt 0 0)) 0)

/-- RECEIVE_STATUS (43_bus_session.md R223): one read of five bytes from 0x60 and one settle delay; RX is
replaced as a whole by a complete answer and kept as a whole otherwise, with BusReadIncomplete. -/
def Obligations.ReceiveStatus : Prop :=
  EncodedAs 0x71 0xFFFFFFFF (fun _ => .receiveStatus) ∧
  ∀ s : State,
    exec .receiveStatus s = .next
      (({ s with rx := rxAfter s.rx (s.readAnswerAt 0 0) }.withCalls (readCalls (s.readAnswerAt 0 0))).ended
        (readFault (s.readAnswerAt 0 0)) 0)

/-- Bus traffic of every command (20_memory.md R66): a command appends to the trace, and what it appends is
transactions of the whole image with device 0x60, each followed at once by its settle delay. A poll of an
unbounded search does the same. -/
def Obligations.TrafficSettled : Prop :=
  (∀ (i : Instr) (s t : State), exec i s = .next t →
    t.env.trace = s.env.trace ++ newCalls s t ∧ settled (newCalls s t) = true) ∧
  (∀ s : State, s.searchPolls.env.trace = s.env.trace ++ newCalls s s.searchPolls ∧
    settled (newCalls s s.searchPolls) = true)

/-- Bus calls per command (44_tuning_search.md R263): the writes and reads of the rule's table, p being the
polls of the SEARCH inside, and as many delays as transactions. A command that has returned has made them all; a
SEARCH with MAX_POLLS = INF that still polls owes its closing writes, and each further step of it is one more
read, with the writes owed made when it ends. A refused word makes no call. That a search rests between polls
is the model's reading, log 7. -/
def Obligations.BusCallsPerCommand : Prop :=
  (∀ (i : Instr) (s t : State), exec i s = .next t →
    ∃ p, 1 ≤ p ∧ (∀ extra, s.pollLimit = .atMost extra → p ≤ extra + 1 ∧ t.phase = .idle) ∧
      (0x83 ≤ i.opcode.toNat ∧ i.opcode.toNat ≤ 0x86 → p = t.polls) ∧
      (newCalls s t).countP isWrite + t.owedWrites = writesOf i ∧
      (newCalls s t).countP isRead = readsOf p i ∧
      (newCalls s t).length = 2 * ((newCalls s t).countP isWrite + (newCalls s t).countP isRead)) ∧
  (∀ s : State, s.phase = .sPoll → s.pollLimit = .inf →
    let t := s.searchPolls
    t.polls = s.polls + 1 ∧
    (newCalls s t).countP isWrite + t.owedWrites = s.owedWrites ∧
    (newCalls s t).countP isRead = 1 ∧
    (newCalls s t).length = 2 * ((newCalls s t).countP isWrite + (newCalls s t).countP isRead)) ∧
  (∀ (w : CmdWord) (e : DecodeError) (s : State), decode w = .error e →
    ∃ t, runWord w s = .next t ∧ newCalls s t = [])

/-! ## Tuning -/

/-- LOAD_FREQUENCY (44_tuning_search.md R240): the received PLL word into TX, `mute` and `search_mode`
preserved, `freq_nom` the word's frequency on the current side; RX and the bus untouched. -/
def Obligations.LoadFrequency : Prop :=
  EncodedAs 0x87 0xFFFFFFFF (fun _ => .loadFrequency) ∧
  ∀ s : State, ∃ freq : BitVec 32,
    exec .loadFrequency s = .next ({ s with
      tx := { s.tx with b0 := (s.tx.b0 &&& 0xC0) ||| (s.rx.b0 &&& 0x3F), b1 := s.rx.b1 }
      freqNom := freq }.ended 0 0) ∧
    freq.toInt = ((s.rx.b0 &&& 0x3F).toNat * 256 + s.rx.b1.toNat : Int) * 8192 +
      (if s.side = .high then -225000 else 225000)

/-- DETERMINE_INJECTION_SIDE (44_tuning_search.md R242): the two probes in order, RX after each answer, the
strict unsigned comparison of the two levels (stale where an answer was short), the chosen side in TX, `side`
and `val`, and the low probe's word left in TX; `freq_nom`, `mute` and `search_mode` untouched; the two probe
words are 164 or 165 steps apart. -/
def Obligations.DetermineInjectionSide : Prop :=
  EncodedAs 0x82 0xF0000000 (fun arg => .determineInjectionSide (arg.extractLsb' 0 28)) ∧
  ∀ (f : FreqArg) (s : State),
    let k1 := s.writeAnswerAt 0 0
    let d1 := s.readAnswerAt 1 0
    let k2 := s.writeAnswerAt 2 1
    let d2 := s.readAnswerAt 3 1
    let x : Side := probedSide s.rx d1 d2
    exec (.determineInjectionSide f) s = .next (({ s with
        tx := tuned s.tx (enc ((f.toNat : Int) - 450000) .low) x
        rx := rxAfter (rxAfter s.rx d1) d2
        side := x
        levHi := BitVec.ofNat 4 (levelOf (rxAfter s.rx d1))
        levLo := BitVec.ofNat 4 (levelOf (rxAfter (rxAfter s.rx d1) d2)) }.withCalls
          (probeCalls s.tx f.toNat k1 d1 k2 d2)).ended
        (probeFaults k1 d1 k2 d2) (if x = Side.high then 1 else 0)) ∧
    (encUnwrapped ((f.toNat : Int) + 450000) .high - encUnwrapped ((f.toNat : Int) - 450000) .low = 164 ∨
     encUnwrapped ((f.toNat : Int) + 450000) .high - encUnwrapped ((f.toNat : Int) - 450000) .low = 165)

/-- The stale level (70_reset_and_hazards.md R353): when the second read of DETERMINE_INJECTION_SIDE is short,
the comparator sees equal levels and chooses LOW, BusReadIncomplete is recorded and the command completes. -/
def Obligations.StaleLevelChoosesLow : Prop :=
  ∀ (f : FreqArg) (s : State), readFault (s.readAnswerAt 3 1) ≠ 0 →
    ∃ t, exec (.determineInjectionSide f) s = .next t ∧ t.side = .low ∧ t.levLo = t.levHi ∧
      t.res &&& 0b00010 = 0b00010 ∧ t.result = some { res := t.res, val := 0 }

/-- SELECT_FREQUENCY (44_tuning_search.md R244): with m = 0 probe, then the word for the chosen side and
`freq_nom`, then one transmit; with m = 1 mute, probe, tune, unmute, where every image but the last carries
`mute` = 1 and the command ends unmuted whatever the mute state was; the final words of the two sides differ
by 54 or 55. -/
def Obligations.SelectFrequency : Prop :=
  EncodedAs 0x80 0xE0000000 (fun arg => .selectFrequency (arg.extractLsb' 0 28) (arg.getLsbD 28)) ∧
  (∀ (f : FreqArg) (s : State),
    let k1 := s.writeAnswerAt 0 0
    let d1 := s.readAnswerAt 1 0
    let k2 := s.writeAnswerAt 2 1
    let d2 := s.readAnswerAt 3 1
    let k3 := s.writeAnswerAt 4 2
    let x : Side := probedSide s.rx d1 d2
    let final := tuned s.tx (enc f.toNat x) x
    exec (.selectFrequency f false) s = .next (({ s with
        tx := final
        rx := rxAfter (rxAfter s.rx d1) d2
        side := x
        freqNom := f.setWidth 32
        levHi := BitVec.ofNat 4 (levelOf (rxAfter s.rx d1))
        levLo := BitVec.ofNat 4 (levelOf (rxAfter (rxAfter s.rx d1) d2)) }.withCalls
          (probeCalls s.tx f.toNat k1 d1 k2 d2 ++ writeCalls final k3)).ended
        (probeFaults k1 d1 k2 d2 ||| writeFault k3) 0)) ∧
  (∀ (f : FreqArg) (s : State),
    let k0 := s.writeAnswerAt 0 0
    let k1 := s.writeAnswerAt 1 1
    let d1 := s.readAnswerAt 2 0
    let k2 := s.writeAnswerAt 3 2
    let d2 := s.readAnswerAt 4 1
    let k3 := s.writeAnswerAt 5 3
    let k4 := s.writeAnswerAt 6 4
    let x : Side := probedSide s.rx d1 d2
    let mutedTx : Image := { s.tx with b0 := s.tx.b0 ||| 0x80 }
    let final := tuned mutedTx (enc f.toNat x) x
    let unmuted : Image := { final with b0 := final.b0 &&& 0x7F }
    exec (.selectFrequency f true) s = .next (({ s with
        tx := unmuted
        rx := rxAfter (rxAfter s.rx d1) d2
        muted := false
        side := x
        freqNom := f.setWidth 32
        levHi := BitVec.ofNat 4 (levelOf (rxAfter s.rx d1))
        levLo := BitVec.ofNat 4 (levelOf (rxAfter (rxAfter s.rx d1) d2)) }.withCalls
          (writeCalls mutedTx k0 ++ (probeCalls mutedTx f.toNat k1 d1 k2 d2 ++
            (writeCalls final k3 ++ writeCalls unmuted k4)))).ended
        (writeFault k0 ||| probeFaults k1 d1 k2 d2 ||| writeFault k3 ||| writeFault k4) 0)) ∧
  (∀ f : FreqArg, encUnwrapped f.toNat .high - encUnwrapped f.toNat .low = 54 ∨
    encUnwrapped f.toNat .high - encUnwrapped f.toNat .low = 55)

/-- SELECT_CHANNEL (44_tuning_search.md R246, 30_encoding.md R117): it completes, with the next state of
SELECT_FREQUENCY at 47900000 + 200000 c, never clamped; the rule's examples; and its word. -/
def Obligations.SelectChannel : Prop :=
  EncodedAs 0x81 0xEFFFFC00 (fun arg => .selectChannel (arg.extractLsb' 0 10) (arg.getLsbD 28)) ∧
  (∀ (c : ChanArg) (m : Bool) (s : State), ∃ t,
    exec (.selectChannel c m) s = .next t ∧
    exec (.selectFrequency (BitVec.ofNat 28 (47900000 + 200000 * c.toNat)) m) s = .next t ∧
    t.freqNom.toInt = 87900000 + ((c.toNat : Int) - 200) * 200000) ∧
  channelHz 200 = 87900000 ∧ channelHz 300 = 107900000 ∧ channelHz 0 = 47900000 ∧ channelHz 201 = 88100000 ∧
  (∀ c : ChanArg, 431 ≤ c.toNat → 16383 < encUnwrapped (channelHz c) .high) ∧
  encUnwrapped (channelHz 1023) .high = 30850 ∧ enc (channelHz 1023) .high = 0x3882

/-! ## Searching -/

/-- A SEARCH that sees `ready` on poll n + 1 of its step, within a finite MAX_POLLS, or on the first poll when
MAX_POLLS = INF (44_tuning_search.md R250, R251): it returns after exactly that many polls with the band-limit
flag of the image that showed `ready`; the received word is loaded, `search_mode` cleared and transmitted, and
the mute undone if it was asked for; `side` and `inj_side` are untouched. A later poll of an unbounded search
is SearchPollFinds. -/
def Obligations.SearchFinds : Prop :=
  ∀ (d : Direction) (m : Bool) (s : State) (n : Nat),
    (∀ extra, s.pollLimit = .atMost extra → n ≤ extra) → (s.pollLimit = .inf → n = 0) →
    (∀ j, j < n → (rxAfterAll s.rx (s.pollAnswers m (j + 1))).b0.getLsbD 7 = false) →
    (rxAfterAll s.rx (s.pollAnswers m (n + 1))).b0.getLsbD 7 = true →
    let ds := s.pollAnswers m (n + 1)
    let rx := rxAfterAll s.rx ds
    let last := loaded rx (searchImage s.tx d m)
    exec (.search d m) s = .next (({ s with
        tx := searchLeft last m
        rx := rx
        muted := if m then false else s.muted
        freqNom := sext32 (dec (getPllWord rx) s.side)
        blf := rx.b0.getLsbD 6
        polls := n + 1
        muteDuringSearch := m }.withCalls (s.searchCalls d m ds last)).ended
        (s.searchFaults m ds) (if rx.b0.getLsbD 6 then 1 else 0))

/-- A search that rests in S_POLL and sees `ready` on its next poll (44_tuning_search.md R250, R251, R240;
70_reset_and_hazards.md R355), whatever MAX_POLLS is: S_LATCH takes the band-limit flag and loads the received
word, the search closes with `search_mode` cleared and transmitted, unmutes if it was asked to mute, and
returns with the faults of all its steps. MODEL'S READING: that each poll of an unbounded search is a step of
its own is log 7 (DEDUCED); that a command presented meanwhile is one input, gone without effect, is log 8. -/
def Obligations.SearchPollFinds : Prop :=
  ∀ (s : State) (rest : List HostInput), s.phase = .sPoll → s.HostLeavesAlone rest →
    let d := s.readAnswerAt 0 0
    let rx := rxAfter s.rx d
    let m := s.muteDuringSearch
    let last := loaded rx s.tx
    let bits := readFault d ||| s.closingFaults m 1 0
    rx.b0.getLsbD 7 = true →
    step s = .next ({ s.withInputs rest with
        tx := searchLeft last m
        rx := rx
        muted := if m then false else s.muted
        freqNom := sext32 (dec (getPllWord rx) s.side)
        fault := s.fault ||| bits
        blf := rx.b0.getLsbD 6
        polls := s.polls + 1
        phase := .idle
        res := s.res ||| bits
        result := some { res := s.res ||| bits, val := if rx.b0.getLsbD 6 then 1 else 0 } }.withCalls
          (readCalls d ++ s.closingCalls m last 1 0))

/-- A SEARCH that never sees `ready` within a finite MAX_POLLS (44_tuning_search.md R250, 60_exceptions.md
R303): it makes exactly MAX_POLLS polls, returns 0 with SearchTimedOut, clears `search_mode`, transmits and
unmutes all the same, and leaves the PLL word and `freq_nom` as they were. -/
def Obligations.SearchTimesOut : Prop :=
  ∀ (d : Direction) (m : Bool) (s : State) (extra : Nat), s.pollLimit = .atMost extra →
    (∀ j, j ≤ extra → (rxAfterAll s.rx (s.pollAnswers m (j + 1))).b0.getLsbD 7 = false) →
    let ds := s.pollAnswers m (extra + 1)
    let last := searchImage s.tx d m
    exec (.search d m) s = .next (({ s with
        tx := searchLeft last m
        rx := rxAfterAll s.rx ds
        muted := if m then false else s.muted
        blf := false
        polls := extra + 1
        muteDuringSearch := m }.withCalls (s.searchCalls d m ds last)).ended
        (s.searchFaults m ds ||| 0b00100) 0)

/-- With a finite MAX_POLLS every SEARCH returns, whatever the bus answers, within 2 + MAX_POLLS transactions,
or 4 + MAX_POLLS with m = 1 (44_tuning_search.md R251); its word is encoded as R250 says. -/
def Obligations.SearchReturns : Prop :=
  EncodedAs 0x83 0xCFFFFFFF (fun arg =>
    .search (if arg.getLsbD 29 then .up else .down) (arg.getLsbD 28)) ∧
  ∀ (d : Direction) (m : Bool) (s : State) (extra : Nat), s.pollLimit = .atMost extra →
    ∃ t, exec (.search d m) s = .next t ∧ t.phase = .idle ∧ t.result.isSome = true ∧
      t.env.busCalls ≤ s.env.busCalls + (if m then 4 else 2) + (extra + 1) ∧
      t.side = s.side ∧ t.tx.b2 &&& 0x7F = s.tx.b2 &&& 0x7F ∧
      t.tx.b2.getLsbD 7 = (d == .up) ∧ t.tx.b0.getLsbD 6 = false

/-- The unbounded search (70_reset_and_hazards.md R355): with MAX_POLLS = INF and a first poll that does not
show `ready`, SEARCH has opened, polled once and rests in S_POLL with no result; each further step without
`ready` is one more `R D` and nothing else, and no command is accepted. MODEL'S READING: that each poll is a step
of its own is log 7 (DEDUCED); that a command presented meanwhile is one input, gone without effect, is log 8. -/
def Obligations.SearchUnbounded : Prop :=
  (∀ (d : Direction) (m : Bool) (s : State), s.pollLimit = .inf →
    let a := s.readAnswerAt (searchLead m) 0
    let bits := s.openingFaults m ||| readFault a
    (rxAfter s.rx a).b0.getLsbD 7 = false →
    exec (.search d m) s = .next ({ s with
        tx := searchImage s.tx d m
        rx := rxAfter s.rx a
        muted := if m then true else s.muted
        fault := s.fault ||| bits
        polls := 1
        phase := .sPoll
        res := bits
        result := none
        muteDuringSearch := m }.withCalls (s.openingCalls d m ++ readCalls a))) ∧
  (∀ (s : State) (rest : List HostInput), s.phase = .sPoll → s.pollLimit = .inf → s.HostLeavesAlone rest →
    let a := s.readAnswerAt 0 0
    (rxAfter s.rx a).b0.getLsbD 7 = false →
    step s = .next ({ s.withInputs rest with
      rx := rxAfter s.rx a
      polls := s.polls + 1
      res := s.res ||| readFault a
      fault := s.fault ||| readFault a }.withCalls (readCalls a)))

/-- The stale `ready` (70_reset_and_hazards.md R354): when RX already shows `ready` and the first poll is
short, SEARCH ends at once on the stale image, whatever MAX_POLLS is: one poll, the stale band-limit flag, and
the stale PLL word copied into TX. -/
def Obligations.StaleReadyEndsSearch : Prop :=
  ∀ (d : Direction) (m : Bool) (s : State), s.rx.b0.getLsbD 7 = true →
    readFault (s.readAnswerAt (searchLead m) 0) ≠ 0 →
    ∃ t, exec (.search d m) s = .next t ∧ t.phase = .idle ∧ t.polls = 1 ∧ t.rx = s.rx ∧
      t.tx = searchLeft (loaded s.rx (searchImage s.tx d m)) m ∧
      t.result = some { res := t.res, val := if s.rx.b0.getLsbD 6 then 1 else 0 } ∧
      t.res &&& 0b00110 = 0b00010

/-- SEARCH_FROM (44_tuning_search.md R256): SELECT_FREQUENCY(f, 0), then the nudge of 100000 Hz in the
direction TX holds, in TX and `freq_nom` and without bus traffic, then SEARCH in that direction, the faults of
the parts gathered in one `res`; the nudged word is 12 or 13 steps away. -/
def Obligations.SearchFrom : Prop :=
  EncodedAs 0x84 0xE0000000 (fun arg => .searchFrom (arg.extractLsb' 0 28) (arg.getLsbD 28)) ∧
  ∀ (f : FreqArg) (m : Bool) (s : State), ∃ t u : State,
    exec (.selectFrequency f false) s = .next t ∧
    (let up : Bool := t.tx.b2.getLsbD 7
     let g : Int := if up then f.toNat + 100000 else f.toNat - 100000
     exec (.search (if up then .up else .down) m)
       { t with tx := putPllWord (enc g t.side) t.tx, freqNom := sext32 g } = .next u) ∧
    exec (.searchFrom f m) s = .next { u with
      res := t.res ||| u.res
      result := u.result.map fun r => { r with res := t.res ||| r.res } } ∧
    (∀ (g : Int) (x : Side),
      (encUnwrapped (g + 100000) x - encUnwrapped g x = 12 ∨ encUnwrapped (g + 100000) x - encUnwrapped g x = 13) ∧
      (encUnwrapped g x - encUnwrapped (g - 100000) x = 12 ∨ encUnwrapped g x - encUnwrapped (g - 100000) x = 13))

/-- SEARCH_FROM_BEGINNING and SEARCH_FROM_END (44_tuning_search.md R258, R259, 30_encoding.md R117): the
search direction is fixed in TX and SEARCH_FROM runs from 87000000 Hz, or from 108000000 Hz. -/
def Obligations.SearchFromEnds : Prop :=
  (EncodedAs 0x85 0xEFFFFFFF (fun arg => .searchFromBeginning (arg.getLsbD 28)) ∧
   ∀ (m : Bool) (s : State), ∃ t,
    exec (.searchFromBeginning m) s = .next t ∧
    exec (.searchFrom 87000000 m) { s with tx := { s.tx with b2 := s.tx.b2 ||| 0x80 } } = .next t) ∧
  (EncodedAs 0x86 0xEFFFFFFF (fun arg => .searchFromEnd (arg.getLsbD 28)) ∧
   ∀ (m : Bool) (s : State), ∃ t,
    exec (.searchFromEnd m) s = .next t ∧
    exec (.searchFrom 108000000 m) { s with tx := { s.tx with b2 := s.tx.b2 &&& 0x7F } } = .next t)

/-! ## Toggles -/

/-- The eight toggles (45_toggles.md R281 to R288): the boolean flips, its one bit follows the new value, and
the whole of TX is transmitted once; a failed write leaves both flipped. -/
def Obligations.Toggles : Prop :=
  (EncodedAs 0x90 0xFFFFFFFF (fun _ => .toggleMute) ∧ ∀ s : State,
    let tx : Image := { s.tx with b0 := if s.muted then s.tx.b0 &&& 0x7F else s.tx.b0 ||| 0x80 }
    exec .toggleMute s = .next (({ s with tx := tx, muted := !s.muted }.withCalls
      (writeCalls tx (s.writeAnswerAt 0 0))).ended (writeFault (s.writeAnswerAt 0 0)) 0)) ∧
  (EncodedAs 0x91 0xFFFFFFFF (fun _ => .toggleMuteLeft) ∧ ∀ s : State,
    let tx : Image := { s.tx with b2 := if s.mutedLeft then s.tx.b2 &&& 0xFD else s.tx.b2 ||| 0x02 }
    exec .toggleMuteLeft s = .next (({ s with tx := tx, mutedLeft := !s.mutedLeft }.withCalls
      (writeCalls tx (s.writeAnswerAt 0 0))).ended (writeFault (s.writeAnswerAt 0 0)) 0)) ∧
  (EncodedAs 0x92 0xFFFFFFFF (fun _ => .toggleMuteRight) ∧ ∀ s : State,
    let tx : Image := { s.tx with b2 := if s.mutedRight then s.tx.b2 &&& 0xFB else s.tx.b2 ||| 0x04 }
    exec .toggleMuteRight s = .next (({ s with tx := tx, mutedRight := !s.mutedRight }.withCalls
      (writeCalls tx (s.writeAnswerAt 0 0))).ended (writeFault (s.writeAnswerAt 0 0)) 0)) ∧
  (EncodedAs 0x93 0xFFFFFFFF (fun _ => .toggleSoftMute) ∧ ∀ s : State,
    let tx : Image := { s.tx with b3 := if s.softMuted then s.tx.b3 &&& 0xF7 else s.tx.b3 ||| 0x08 }
    exec .toggleSoftMute s = .next (({ s with tx := tx, softMuted := !s.softMuted }.withCalls
      (writeCalls tx (s.writeAnswerAt 0 0))).ended (writeFault (s.writeAnswerAt 0 0)) 0)) ∧
  (EncodedAs 0x94 0xFFFFFFFF (fun _ => .toggleStandby) ∧ ∀ s : State,
    let tx : Image := { s.tx with b3 := if s.standby then s.tx.b3 &&& 0xBF else s.tx.b3 ||| 0x40 }
    exec .toggleStandby s = .next (({ s with tx := tx, standby := !s.standby }.withCalls
      (writeCalls tx (s.writeAnswerAt 0 0))).ended (writeFault (s.writeAnswerAt 0 0)) 0)) ∧
  (EncodedAs 0x95 0xFFFFFFFF (fun _ => .toggleForcedMono) ∧ ∀ s : State,
    let tx : Image := { s.tx with b2 := if s.forcedMono then s.tx.b2 &&& 0xF7 else s.tx.b2 ||| 0x08 }
    exec .toggleForcedMono s = .next (({ s with tx := tx, forcedMono := !s.forcedMono }.withCalls
      (writeCalls tx (s.writeAnswerAt 0 0))).ended (writeFault (s.writeAnswerAt 0 0)) 0)) ∧
  (EncodedAs 0x96 0xFFFFFFFF (fun _ => .toggleHcc) ∧ ∀ s : State,
    let tx : Image := { s.tx with b3 := if s.highCutControl then s.tx.b3 &&& 0xFB else s.tx.b3 ||| 0x04 }
    exec .toggleHcc s = .next (({ s with tx := tx, highCutControl := !s.highCutControl }.withCalls
      (writeCalls tx (s.writeAnswerAt 0 0))).ended (writeFault (s.writeAnswerAt 0 0)) 0)) ∧
  (EncodedAs 0x97 0xFFFFFFFF (fun _ => .toggleSnc) ∧ ∀ s : State,
    let tx : Image :=
      { s.tx with b3 := if s.stereoNoiseCancelling then s.tx.b3 &&& 0xFD else s.tx.b3 ||| 0x02 }
    exec .toggleSnc s = .next (({ s with tx := tx, stereoNoiseCancelling := !s.stereoNoiseCancelling }.withCalls
      (writeCalls tx (s.writeAnswerAt 0 0))).ended (writeFault (s.writeAnswerAt 0 0)) 0))

/-- Involution (45_toggles.md R280 (f)): where the mirrors agree with TX, as in every reachable state, the
same toggle twice restores TX and every boolean, and makes two writes, the second of the original image. -/
def Obligations.TogglePairsRestore : Prop :=
  ∀ (i : Instr) (s : State),
    i ∈ [Instr.toggleMute, .toggleMuteLeft, .toggleMuteRight, .toggleSoftMute, .toggleStandby,
      .toggleForcedMono, .toggleHcc, .toggleSnc] →
    s.MirrorsAgree →
    ∃ t u, exec i s = .next t ∧ exec i t = .next u ∧ t.tx ≠ s.tx ∧ u.tx = s.tx ∧
      (∀ m, u.mirror m = s.mirror m) ∧
      u.env.trace = s.env.trace ++ writeCalls t.tx (s.writeAnswerAt 0 0) ++
        writeCalls s.tx (s.writeAnswerAt 1 1)

/-! ## Faults -/

/-- `raise F` (60_exceptions.md R312, R300): the mask of the fault in `res` and in FAULT and nothing more, so
that raising a fault whose bit is set changes nothing (R314). -/
def Obligations.RaiseOnlySetsBits : Prop :=
  FaultFlag.mask .busWriteFailed = 0b00001 ∧ FaultFlag.mask .busReadIncomplete = 0b00010 ∧
  FaultFlag.mask .searchTimedOut = 0b00100 ∧ FaultFlag.mask .illegalCommand = 0b01000 ∧
  FaultFlag.mask .illegalOperand = 0b10000 ∧
  (∀ (s : State) (flag : FaultFlag),
    s.raise flag = { s with res := s.res ||| flag.mask, fault := s.fault ||| flag.mask } ∧
    (s.raise flag).raise flag = s.raise flag)

/-- FAULT after a command word is FAULT before it with exactly the command's `res` bits added (30_encoding.md
R113, 60_exceptions.md R314): `res` starts fresh, and no command clears a bit. -/
def Obligations.FaultGathersRes : Prop :=
  ∀ (w : CmdWord) (s : State), ∃ t, runWord w s = .next t ∧ t.fault = s.fault ||| t.res ∧
    (∀ r, t.result = some r → r.res = t.res)

/-- Which commands can raise which fault (60_exceptions.md R307's table): `res` is a subset of the command's
row; IllegalCommand is what a reserved op gives, alone; IllegalOperand, when present, is present alone; and
SearchTimedOut needs a finite MAX_POLLS. Every fault of a row is possible: some word and state give the whole
row at once, and some word gives IllegalOperand. -/
def Obligations.FaultTable : Prop :=
  (∀ (op : Byte) (arg : Arg) (s : State), ∃ t, runWord (CmdWord.make op arg) s = .next t ∧
    (reservedOp op.toNat = true → t.res = 0b01000) ∧
    (reservedOp op.toNat = false → t.res = 0b10000 ∨ t.res &&& ~~~(faultRow op.toNat) = 0) ∧
    (s.pollLimit = .inf → t.res &&& 0b00100 = 0)) ∧
  (∀ op : Byte, reservedOp op.toNat = false →
    (∃ (arg : Arg) (s t : State), runWord (CmdWord.make op arg) s = .next t ∧ t.res = faultRow op.toNat) ∧
    (∃ (arg : Arg) (s t : State), runWord (CmdWord.make op arg) s = .next t ∧ t.res = 0b10000))

/-- FAULT is sticky along the whole machine (10_state.md R33): a step keeps every bit of it, or a hardware
reset fell into the step, and then the block is in its reset state, FAULT cleared. The values `resetWith` gives
the latches and the model's own fields are logs 3 and 4, the reset as a host input is log 9. -/
def Obligations.FaultClearedByResetOnly : Prop :=
  ∀ s t : State, step s = .next t →
    s.fault &&& t.fault = s.fault ∨
    ((∃ n rest, s.HostResets n rest) ∧ t = { State.resetWith s.params with env := t.env } ∧ t.fault = 0)

/-! ## Invariants and whole-machine rules -/

/-- The reset state satisfies the invariant, whatever the open parameters (10_state.md R48, R49); what the
invariant says of the result port holds by the reset values of log 4. -/
def Obligations.ResetSatisfiesInv : Prop := State.reset.Inv ∧ ∀ p : Params, (State.resetWith p).Inv

/-- The open parameters are chosen at build time (00_scope.md R6, 70_reset_and_hazards.md R345 (3)): no step
changes them, a hardware reset included, and a run keeps its MAX_POLLS. -/
def Obligations.ParametersFixed : Prop :=
  ∀ s t : State, step s = .next t → t.params = s.params ∧ t.pollLimit = s.pollLimit

/-- Every step from a state of the invariant, reached or not, gives a state of the invariant: TX legal, the
mirrors and `side` in step with TX, the block at rest between steps, every fault recorded, and a polling
search asked for in TX (10_state.md R49, R30, R31; 30_encoding.md R113). -/
def Obligations.StepKeepsInv : Prop := ∀ s t : State, s.Inv → step s = .next t → t.Inv

/-- The reachable-state invariants (10_state.md R49), from reset with any open parameters, by any commands and
any bus answers: unused bits 0, stop level legal, the eight mirrors and `side` in step with TX, and the phase
IDLE whenever a command has returned, and whenever one is accepted: in any other phase a presented command word
makes no difference to the step. -/
def Obligations.ReachableStates : Prop :=
  ∀ s : State, Reachable s →
    s.tx.b4 &&& 0x3F = 0 ∧
    (s.tx.b2 &&& 0x60) >>> 5 ≠ 0 ∧
    s.MirrorsAgree ∧
    (s.side = .high ↔ s.tx.b2.getLsbD 4 = true) ∧
    (s.result.isSome = true → s.phase = .idle) ∧
    (s.phase ≠ .idle → ∀ (w : CmdWord) (rest : List HostInput),
      step (s.withInputs (.command w :: rest)) = step (s.withInputs (.nothing :: rest)))

/-- The block never stops (60_exceptions.md R305, R312; 10_state.md R45): every reachable state has a next
state; a reachable block is idle or a search of it polls, and it polls only where MAX_POLLS = INF
(70_reset_and_hazards.md R355). The model's own fault `strayPhase` (log 10) is never met. -/
def Obligations.NeverStops : Prop :=
  (∀ s : State, Reachable s → ∃ t, step s = .next t) ∧
  (∀ s : State, Reachable s → s.phase = .idle ∨ (s.phase = .sPoll ∧ s.pollLimit = .inf)) ∧
  (∀ (i : Instr) (s : State), ∃ t, exec i s = .next t)

/-- Who writes what (10_state.md R27, R31, R32; 20_memory.md R61): outside the tuning family LOAD_FREQUENCY
included, no command changes `freq_nom`; only SET_INJ_SIDE and the probing commands change `side`; only
commands that read the bus change RX; the converter, the setters, the getters and LOAD_FREQUENCY never reach
the bus; and no command touches the unused bits of TX[4]. -/
def Obligations.StateOwners : Prop :=
  ∀ (i : Instr) (s t : State), exec i s = .next t →
    (i.opcode.toNat < 0x80 ∨ 0x90 ≤ i.opcode.toNat ∨ i.opcode.toNat = 0x82 → t.freqNom = s.freqNom) ∧
    (i.opcode.toNat ≠ 0x05 ∧ (i.opcode.toNat < 0x80 ∨ i.opcode.toNat = 0x83 ∨ 0x87 ≤ i.opcode.toNat) →
      t.side = s.side ∧ t.tx.b2.getLsbD 4 = s.tx.b2.getLsbD 4) ∧
    (i.opcode.toNat ≠ 0x71 ∧ (i.opcode.toNat < 0x80 ∨ 0x87 ≤ i.opcode.toNat) → t.rx = s.rx) ∧
    (i.opcode.toNat < 0x70 ∨ i.opcode.toNat = 0x87 → t.env = s.env) ∧
    t.tx.b4 &&& 0x3F = s.tx.b4 &&& 0x3F
end

