-- ==== Sys2Proof/Laws/State.lean ====
section
/-! SUPPORT. One lemma per field per update of State, true by rfl, so that no later proof unfolds a record
update. -/

namespace Sys2Proof.Machine

/-! ### raise -/

@[simp] theorem State.raise_tx (s : State) (flag : FaultFlag) : (s.raise flag).tx = s.tx := rfl
@[simp] theorem State.raise_rx (s : State) (flag : FaultFlag) : (s.raise flag).rx = s.rx := rfl
@[simp] theorem State.raise_muted (s : State) (flag : FaultFlag) : (s.raise flag).muted = s.muted := rfl
@[simp] theorem State.raise_mutedLeft (s : State) (flag : FaultFlag) : (s.raise flag).mutedLeft = s.mutedLeft := rfl
@[simp] theorem State.raise_mutedRight (s : State) (flag : FaultFlag) : (s.raise flag).mutedRight = s.mutedRight := rfl
@[simp] theorem State.raise_softMuted (s : State) (flag : FaultFlag) : (s.raise flag).softMuted = s.softMuted := rfl
@[simp] theorem State.raise_highCutControl (s : State) (flag : FaultFlag) : (s.raise flag).highCutControl = s.highCutControl := rfl
@[simp] theorem State.raise_stereoNoiseCancelling (s : State) (flag : FaultFlag) : (s.raise flag).stereoNoiseCancelling = s.stereoNoiseCancelling := rfl
@[simp] theorem State.raise_standby (s : State) (flag : FaultFlag) : (s.raise flag).standby = s.standby := rfl
@[simp] theorem State.raise_forcedMono (s : State) (flag : FaultFlag) : (s.raise flag).forcedMono = s.forcedMono := rfl
@[simp] theorem State.raise_side (s : State) (flag : FaultFlag) : (s.raise flag).side = s.side := rfl
@[simp] theorem State.raise_freqNom (s : State) (flag : FaultFlag) : (s.raise flag).freqNom = s.freqNom := rfl
@[simp] theorem State.raise_fault (s : State) (flag : FaultFlag) : (s.raise flag).fault = s.fault ||| flag.mask := rfl
@[simp] theorem State.raise_levHi (s : State) (flag : FaultFlag) : (s.raise flag).levHi = s.levHi := rfl
@[simp] theorem State.raise_levLo (s : State) (flag : FaultFlag) : (s.raise flag).levLo = s.levLo := rfl
@[simp] theorem State.raise_blf (s : State) (flag : FaultFlag) : (s.raise flag).blf = s.blf := rfl
@[simp] theorem State.raise_polls (s : State) (flag : FaultFlag) : (s.raise flag).polls = s.polls := rfl
@[simp] theorem State.raise_phase (s : State) (flag : FaultFlag) : (s.raise flag).phase = s.phase := rfl
@[simp] theorem State.raise_res (s : State) (flag : FaultFlag) : (s.raise flag).res = s.res ||| flag.mask := rfl
@[simp] theorem State.raise_result (s : State) (flag : FaultFlag) : (s.raise flag).result = s.result := rfl
@[simp] theorem State.raise_muteDuringSearch (s : State) (flag : FaultFlag) : (s.raise flag).muteDuringSearch = s.muteDuringSearch := rfl
@[simp] theorem State.raise_params (s : State) (flag : FaultFlag) : (s.raise flag).params = s.params := rfl
@[simp] theorem State.raise_env (s : State) (flag : FaultFlag) : (s.raise flag).env = s.env := rfl

/-! ### accept -/

@[simp] theorem State.accept_tx (s : State) : (s.accept).tx = s.tx := rfl
@[simp] theorem State.accept_rx (s : State) : (s.accept).rx = s.rx := rfl
@[simp] theorem State.accept_muted (s : State) : (s.accept).muted = s.muted := rfl
@[simp] theorem State.accept_mutedLeft (s : State) : (s.accept).mutedLeft = s.mutedLeft := rfl
@[simp] theorem State.accept_mutedRight (s : State) : (s.accept).mutedRight = s.mutedRight := rfl
@[simp] theorem State.accept_softMuted (s : State) : (s.accept).softMuted = s.softMuted := rfl
@[simp] theorem State.accept_highCutControl (s : State) : (s.accept).highCutControl = s.highCutControl := rfl
@[simp] theorem State.accept_stereoNoiseCancelling (s : State) : (s.accept).stereoNoiseCancelling = s.stereoNoiseCancelling := rfl
@[simp] theorem State.accept_standby (s : State) : (s.accept).standby = s.standby := rfl
@[simp] theorem State.accept_forcedMono (s : State) : (s.accept).forcedMono = s.forcedMono := rfl
@[simp] theorem State.accept_side (s : State) : (s.accept).side = s.side := rfl
@[simp] theorem State.accept_freqNom (s : State) : (s.accept).freqNom = s.freqNom := rfl
@[simp] theorem State.accept_fault (s : State) : (s.accept).fault = s.fault := rfl
@[simp] theorem State.accept_levHi (s : State) : (s.accept).levHi = s.levHi := rfl
@[simp] theorem State.accept_levLo (s : State) : (s.accept).levLo = s.levLo := rfl
@[simp] theorem State.accept_blf (s : State) : (s.accept).blf = s.blf := rfl
@[simp] theorem State.accept_polls (s : State) : (s.accept).polls = s.polls := rfl
@[simp] theorem State.accept_phase (s : State) : (s.accept).phase = .run := rfl
@[simp] theorem State.accept_res (s : State) : (s.accept).res = 0 := rfl
@[simp] theorem State.accept_result (s : State) : (s.accept).result = none := rfl
@[simp] theorem State.accept_muteDuringSearch (s : State) : (s.accept).muteDuringSearch = s.muteDuringSearch := rfl
@[simp] theorem State.accept_params (s : State) : (s.accept).params = s.params := rfl
@[simp] theorem State.accept_env (s : State) : (s.accept).env = s.env := rfl

/-! ### returned -/

@[simp] theorem State.returned_tx (s : State) (val : Val) : (s.returned val).tx = s.tx := rfl
@[simp] theorem State.returned_rx (s : State) (val : Val) : (s.returned val).rx = s.rx := rfl
@[simp] theorem State.returned_muted (s : State) (val : Val) : (s.returned val).muted = s.muted := rfl
@[simp] theorem State.returned_mutedLeft (s : State) (val : Val) : (s.returned val).mutedLeft = s.mutedLeft := rfl
@[simp] theorem State.returned_mutedRight (s : State) (val : Val) : (s.returned val).mutedRight = s.mutedRight := rfl
@[simp] theorem State.returned_softMuted (s : State) (val : Val) : (s.returned val).softMuted = s.softMuted := rfl
@[simp] theorem State.returned_highCutControl (s : State) (val : Val) : (s.returned val).highCutControl = s.highCutControl := rfl
@[simp] theorem State.returned_stereoNoiseCancelling (s : State) (val : Val) : (s.returned val).stereoNoiseCancelling = s.stereoNoiseCancelling := rfl
@[simp] theorem State.returned_standby (s : State) (val : Val) : (s.returned val).standby = s.standby := rfl
@[simp] theorem State.returned_forcedMono (s : State) (val : Val) : (s.returned val).forcedMono = s.forcedMono := rfl
@[simp] theorem State.returned_side (s : State) (val : Val) : (s.returned val).side = s.side := rfl
@[simp] theorem State.returned_freqNom (s : State) (val : Val) : (s.returned val).freqNom = s.freqNom := rfl
@[simp] theorem State.returned_fault (s : State) (val : Val) : (s.returned val).fault = s.fault := rfl
@[simp] theorem State.returned_levHi (s : State) (val : Val) : (s.returned val).levHi = s.levHi := rfl
@[simp] theorem State.returned_levLo (s : State) (val : Val) : (s.returned val).levLo = s.levLo := rfl
@[simp] theorem State.returned_blf (s : State) (val : Val) : (s.returned val).blf = s.blf := rfl
@[simp] theorem State.returned_polls (s : State) (val : Val) : (s.returned val).polls = s.polls := rfl
@[simp] theorem State.returned_phase (s : State) (val : Val) : (s.returned val).phase = .idle := rfl
@[simp] theorem State.returned_res (s : State) (val : Val) : (s.returned val).res = s.res := rfl
@[simp] theorem State.returned_result (s : State) (val : Val) : (s.returned val).result = some { res := s.res, val := val } := rfl
@[simp] theorem State.returned_muteDuringSearch (s : State) (val : Val) : (s.returned val).muteDuringSearch = s.muteDuringSearch := rfl
@[simp] theorem State.returned_params (s : State) (val : Val) : (s.returned val).params = s.params := rfl
@[simp] theorem State.returned_env (s : State) (val : Val) : (s.returned val).env = s.env := rfl

/-! ### inPhase -/

@[simp] theorem State.inPhase_tx (s : State) (p : Phase) : (s.inPhase p).tx = s.tx := rfl
@[simp] theorem State.inPhase_rx (s : State) (p : Phase) : (s.inPhase p).rx = s.rx := rfl
@[simp] theorem State.inPhase_muted (s : State) (p : Phase) : (s.inPhase p).muted = s.muted := rfl
@[simp] theorem State.inPhase_mutedLeft (s : State) (p : Phase) : (s.inPhase p).mutedLeft = s.mutedLeft := rfl
@[simp] theorem State.inPhase_mutedRight (s : State) (p : Phase) : (s.inPhase p).mutedRight = s.mutedRight := rfl
@[simp] theorem State.inPhase_softMuted (s : State) (p : Phase) : (s.inPhase p).softMuted = s.softMuted := rfl
@[simp] theorem State.inPhase_highCutControl (s : State) (p : Phase) : (s.inPhase p).highCutControl = s.highCutControl := rfl
@[simp] theorem State.inPhase_stereoNoiseCancelling (s : State) (p : Phase) : (s.inPhase p).stereoNoiseCancelling = s.stereoNoiseCancelling := rfl
@[simp] theorem State.inPhase_standby (s : State) (p : Phase) : (s.inPhase p).standby = s.standby := rfl
@[simp] theorem State.inPhase_forcedMono (s : State) (p : Phase) : (s.inPhase p).forcedMono = s.forcedMono := rfl
@[simp] theorem State.inPhase_side (s : State) (p : Phase) : (s.inPhase p).side = s.side := rfl
@[simp] theorem State.inPhase_freqNom (s : State) (p : Phase) : (s.inPhase p).freqNom = s.freqNom := rfl
@[simp] theorem State.inPhase_fault (s : State) (p : Phase) : (s.inPhase p).fault = s.fault := rfl
@[simp] theorem State.inPhase_levHi (s : State) (p : Phase) : (s.inPhase p).levHi = s.levHi := rfl
@[simp] theorem State.inPhase_levLo (s : State) (p : Phase) : (s.inPhase p).levLo = s.levLo := rfl
@[simp] theorem State.inPhase_blf (s : State) (p : Phase) : (s.inPhase p).blf = s.blf := rfl
@[simp] theorem State.inPhase_polls (s : State) (p : Phase) : (s.inPhase p).polls = s.polls := rfl
@[simp] theorem State.inPhase_phase (s : State) (p : Phase) : (s.inPhase p).phase = p := rfl
@[simp] theorem State.inPhase_res (s : State) (p : Phase) : (s.inPhase p).res = s.res := rfl
@[simp] theorem State.inPhase_result (s : State) (p : Phase) : (s.inPhase p).result = s.result := rfl
@[simp] theorem State.inPhase_muteDuringSearch (s : State) (p : Phase) : (s.inPhase p).muteDuringSearch = s.muteDuringSearch := rfl
@[simp] theorem State.inPhase_params (s : State) (p : Phase) : (s.inPhase p).params = s.params := rfl
@[simp] theorem State.inPhase_env (s : State) (p : Phase) : (s.inPhase p).env = s.env := rfl

/-! ### writeTx -/

@[simp] theorem State.writeTx_tx (s : State) (fld : FieldSpec) (v : Byte) : (s.writeTx fld v).tx = writeField fld v s.tx := rfl
@[simp] theorem State.writeTx_rx (s : State) (fld : FieldSpec) (v : Byte) : (s.writeTx fld v).rx = s.rx := rfl
@[simp] theorem State.writeTx_muted (s : State) (fld : FieldSpec) (v : Byte) : (s.writeTx fld v).muted = s.muted := rfl
@[simp] theorem State.writeTx_mutedLeft (s : State) (fld : FieldSpec) (v : Byte) : (s.writeTx fld v).mutedLeft = s.mutedLeft := rfl
@[simp] theorem State.writeTx_mutedRight (s : State) (fld : FieldSpec) (v : Byte) : (s.writeTx fld v).mutedRight = s.mutedRight := rfl
@[simp] theorem State.writeTx_softMuted (s : State) (fld : FieldSpec) (v : Byte) : (s.writeTx fld v).softMuted = s.softMuted := rfl
@[simp] theorem State.writeTx_highCutControl (s : State) (fld : FieldSpec) (v : Byte) : (s.writeTx fld v).highCutControl = s.highCutControl := rfl
@[simp] theorem State.writeTx_stereoNoiseCancelling (s : State) (fld : FieldSpec) (v : Byte) : (s.writeTx fld v).stereoNoiseCancelling = s.stereoNoiseCancelling := rfl
@[simp] theorem State.writeTx_standby (s : State) (fld : FieldSpec) (v : Byte) : (s.writeTx fld v).standby = s.standby := rfl
@[simp] theorem State.writeTx_forcedMono (s : State) (fld : FieldSpec) (v : Byte) : (s.writeTx fld v).forcedMono = s.forcedMono := rfl
@[simp] theorem State.writeTx_side (s : State) (fld : FieldSpec) (v : Byte) : (s.writeTx fld v).side = s.side := rfl
@[simp] theorem State.writeTx_freqNom (s : State) (fld : FieldSpec) (v : Byte) : (s.writeTx fld v).freqNom = s.freqNom := rfl
@[simp] theorem State.writeTx_fault (s : State) (fld : FieldSpec) (v : Byte) : (s.writeTx fld v).fault = s.fault := rfl
@[simp] theorem State.writeTx_levHi (s : State) (fld : FieldSpec) (v : Byte) : (s.writeTx fld v).levHi = s.levHi := rfl
@[simp] theorem State.writeTx_levLo (s : State) (fld : FieldSpec) (v : Byte) : (s.writeTx fld v).levLo = s.levLo := rfl
@[simp] theorem State.writeTx_blf (s : State) (fld : FieldSpec) (v : Byte) : (s.writeTx fld v).blf = s.blf := rfl
@[simp] theorem State.writeTx_polls (s : State) (fld : FieldSpec) (v : Byte) : (s.writeTx fld v).polls = s.polls := rfl
@[simp] theorem State.writeTx_phase (s : State) (fld : FieldSpec) (v : Byte) : (s.writeTx fld v).phase = s.phase := rfl
@[simp] theorem State.writeTx_res (s : State) (fld : FieldSpec) (v : Byte) : (s.writeTx fld v).res = s.res := rfl
@[simp] theorem State.writeTx_result (s : State) (fld : FieldSpec) (v : Byte) : (s.writeTx fld v).result = s.result := rfl
@[simp] theorem State.writeTx_muteDuringSearch (s : State) (fld : FieldSpec) (v : Byte) : (s.writeTx fld v).muteDuringSearch = s.muteDuringSearch := rfl
@[simp] theorem State.writeTx_params (s : State) (fld : FieldSpec) (v : Byte) : (s.writeTx fld v).params = s.params := rfl
@[simp] theorem State.writeTx_env (s : State) (fld : FieldSpec) (v : Byte) : (s.writeTx fld v).env = s.env := rfl

/-! ### writeTxBit -/

@[simp] theorem State.writeTxBit_tx (s : State) (fld : FieldSpec) (v : Bool) : (s.writeTxBit fld v).tx = writeBit fld v s.tx := rfl
@[simp] theorem State.writeTxBit_rx (s : State) (fld : FieldSpec) (v : Bool) : (s.writeTxBit fld v).rx = s.rx := rfl
@[simp] theorem State.writeTxBit_muted (s : State) (fld : FieldSpec) (v : Bool) : (s.writeTxBit fld v).muted = s.muted := rfl
@[simp] theorem State.writeTxBit_mutedLeft (s : State) (fld : FieldSpec) (v : Bool) : (s.writeTxBit fld v).mutedLeft = s.mutedLeft := rfl
@[simp] theorem State.writeTxBit_mutedRight (s : State) (fld : FieldSpec) (v : Bool) : (s.writeTxBit fld v).mutedRight = s.mutedRight := rfl
@[simp] theorem State.writeTxBit_softMuted (s : State) (fld : FieldSpec) (v : Bool) : (s.writeTxBit fld v).softMuted = s.softMuted := rfl
@[simp] theorem State.writeTxBit_highCutControl (s : State) (fld : FieldSpec) (v : Bool) : (s.writeTxBit fld v).highCutControl = s.highCutControl := rfl
@[simp] theorem State.writeTxBit_stereoNoiseCancelling (s : State) (fld : FieldSpec) (v : Bool) : (s.writeTxBit fld v).stereoNoiseCancelling = s.stereoNoiseCancelling := rfl
@[simp] theorem State.writeTxBit_standby (s : State) (fld : FieldSpec) (v : Bool) : (s.writeTxBit fld v).standby = s.standby := rfl
@[simp] theorem State.writeTxBit_forcedMono (s : State) (fld : FieldSpec) (v : Bool) : (s.writeTxBit fld v).forcedMono = s.forcedMono := rfl
@[simp] theorem State.writeTxBit_side (s : State) (fld : FieldSpec) (v : Bool) : (s.writeTxBit fld v).side = s.side := rfl
@[simp] theorem State.writeTxBit_freqNom (s : State) (fld : FieldSpec) (v : Bool) : (s.writeTxBit fld v).freqNom = s.freqNom := rfl
@[simp] theorem State.writeTxBit_fault (s : State) (fld : FieldSpec) (v : Bool) : (s.writeTxBit fld v).fault = s.fault := rfl
@[simp] theorem State.writeTxBit_levHi (s : State) (fld : FieldSpec) (v : Bool) : (s.writeTxBit fld v).levHi = s.levHi := rfl
@[simp] theorem State.writeTxBit_levLo (s : State) (fld : FieldSpec) (v : Bool) : (s.writeTxBit fld v).levLo = s.levLo := rfl
@[simp] theorem State.writeTxBit_blf (s : State) (fld : FieldSpec) (v : Bool) : (s.writeTxBit fld v).blf = s.blf := rfl
@[simp] theorem State.writeTxBit_polls (s : State) (fld : FieldSpec) (v : Bool) : (s.writeTxBit fld v).polls = s.polls := rfl
@[simp] theorem State.writeTxBit_phase (s : State) (fld : FieldSpec) (v : Bool) : (s.writeTxBit fld v).phase = s.phase := rfl
@[simp] theorem State.writeTxBit_res (s : State) (fld : FieldSpec) (v : Bool) : (s.writeTxBit fld v).res = s.res := rfl
@[simp] theorem State.writeTxBit_result (s : State) (fld : FieldSpec) (v : Bool) : (s.writeTxBit fld v).result = s.result := rfl
@[simp] theorem State.writeTxBit_muteDuringSearch (s : State) (fld : FieldSpec) (v : Bool) : (s.writeTxBit fld v).muteDuringSearch = s.muteDuringSearch := rfl
@[simp] theorem State.writeTxBit_params (s : State) (fld : FieldSpec) (v : Bool) : (s.writeTxBit fld v).params = s.params := rfl
@[simp] theorem State.writeTxBit_env (s : State) (fld : FieldSpec) (v : Bool) : (s.writeTxBit fld v).env = s.env := rfl

/-! ### putPll -/

@[simp] theorem State.putPll_tx (s : State) (w : PllWord) : (s.putPll w).tx = putPllWord w s.tx := rfl
@[simp] theorem State.putPll_rx (s : State) (w : PllWord) : (s.putPll w).rx = s.rx := rfl
@[simp] theorem State.putPll_muted (s : State) (w : PllWord) : (s.putPll w).muted = s.muted := rfl
@[simp] theorem State.putPll_mutedLeft (s : State) (w : PllWord) : (s.putPll w).mutedLeft = s.mutedLeft := rfl
@[simp] theorem State.putPll_mutedRight (s : State) (w : PllWord) : (s.putPll w).mutedRight = s.mutedRight := rfl
@[simp] theorem State.putPll_softMuted (s : State) (w : PllWord) : (s.putPll w).softMuted = s.softMuted := rfl
@[simp] theorem State.putPll_highCutControl (s : State) (w : PllWord) : (s.putPll w).highCutControl = s.highCutControl := rfl
@[simp] theorem State.putPll_stereoNoiseCancelling (s : State) (w : PllWord) : (s.putPll w).stereoNoiseCancelling = s.stereoNoiseCancelling := rfl
@[simp] theorem State.putPll_standby (s : State) (w : PllWord) : (s.putPll w).standby = s.standby := rfl
@[simp] theorem State.putPll_forcedMono (s : State) (w : PllWord) : (s.putPll w).forcedMono = s.forcedMono := rfl
@[simp] theorem State.putPll_side (s : State) (w : PllWord) : (s.putPll w).side = s.side := rfl
@[simp] theorem State.putPll_freqNom (s : State) (w : PllWord) : (s.putPll w).freqNom = s.freqNom := rfl
@[simp] theorem State.putPll_fault (s : State) (w : PllWord) : (s.putPll w).fault = s.fault := rfl
@[simp] theorem State.putPll_levHi (s : State) (w : PllWord) : (s.putPll w).levHi = s.levHi := rfl
@[simp] theorem State.putPll_levLo (s : State) (w : PllWord) : (s.putPll w).levLo = s.levLo := rfl
@[simp] theorem State.putPll_blf (s : State) (w : PllWord) : (s.putPll w).blf = s.blf := rfl
@[simp] theorem State.putPll_polls (s : State) (w : PllWord) : (s.putPll w).polls = s.polls := rfl
@[simp] theorem State.putPll_phase (s : State) (w : PllWord) : (s.putPll w).phase = s.phase := rfl
@[simp] theorem State.putPll_res (s : State) (w : PllWord) : (s.putPll w).res = s.res := rfl
@[simp] theorem State.putPll_result (s : State) (w : PllWord) : (s.putPll w).result = s.result := rfl
@[simp] theorem State.putPll_muteDuringSearch (s : State) (w : PllWord) : (s.putPll w).muteDuringSearch = s.muteDuringSearch := rfl
@[simp] theorem State.putPll_params (s : State) (w : PllWord) : (s.putPll w).params = s.params := rfl
@[simp] theorem State.putPll_env (s : State) (w : PllWord) : (s.putPll w).env = s.env := rfl

/-! ### setSide -/

@[simp] theorem State.setSide_tx (s : State) (x : Side) : (s.setSide x).tx = writeBit injSideField x.bit s.tx := rfl
@[simp] theorem State.setSide_rx (s : State) (x : Side) : (s.setSide x).rx = s.rx := rfl
@[simp] theorem State.setSide_muted (s : State) (x : Side) : (s.setSide x).muted = s.muted := rfl
@[simp] theorem State.setSide_mutedLeft (s : State) (x : Side) : (s.setSide x).mutedLeft = s.mutedLeft := rfl
@[simp] theorem State.setSide_mutedRight (s : State) (x : Side) : (s.setSide x).mutedRight = s.mutedRight := rfl
@[simp] theorem State.setSide_softMuted (s : State) (x : Side) : (s.setSide x).softMuted = s.softMuted := rfl
@[simp] theorem State.setSide_highCutControl (s : State) (x : Side) : (s.setSide x).highCutControl = s.highCutControl := rfl
@[simp] theorem State.setSide_stereoNoiseCancelling (s : State) (x : Side) : (s.setSide x).stereoNoiseCancelling = s.stereoNoiseCancelling := rfl
@[simp] theorem State.setSide_standby (s : State) (x : Side) : (s.setSide x).standby = s.standby := rfl
@[simp] theorem State.setSide_forcedMono (s : State) (x : Side) : (s.setSide x).forcedMono = s.forcedMono := rfl
@[simp] theorem State.setSide_side (s : State) (x : Side) : (s.setSide x).side = x := rfl
@[simp] theorem State.setSide_freqNom (s : State) (x : Side) : (s.setSide x).freqNom = s.freqNom := rfl
@[simp] theorem State.setSide_fault (s : State) (x : Side) : (s.setSide x).fault = s.fault := rfl
@[simp] theorem State.setSide_levHi (s : State) (x : Side) : (s.setSide x).levHi = s.levHi := rfl
@[simp] theorem State.setSide_levLo (s : State) (x : Side) : (s.setSide x).levLo = s.levLo := rfl
@[simp] theorem State.setSide_blf (s : State) (x : Side) : (s.setSide x).blf = s.blf := rfl
@[simp] theorem State.setSide_polls (s : State) (x : Side) : (s.setSide x).polls = s.polls := rfl
@[simp] theorem State.setSide_phase (s : State) (x : Side) : (s.setSide x).phase = s.phase := rfl
@[simp] theorem State.setSide_res (s : State) (x : Side) : (s.setSide x).res = s.res := rfl
@[simp] theorem State.setSide_result (s : State) (x : Side) : (s.setSide x).result = s.result := rfl
@[simp] theorem State.setSide_muteDuringSearch (s : State) (x : Side) : (s.setSide x).muteDuringSearch = s.muteDuringSearch := rfl
@[simp] theorem State.setSide_params (s : State) (x : Side) : (s.setSide x).params = s.params := rfl
@[simp] theorem State.setSide_env (s : State) (x : Side) : (s.setSide x).env = s.env := rfl

/-! ### tuneWord -/

@[simp] theorem State.tuneWord_tx (s : State) (f : Int) : (s.tuneWord f).tx = putPllWord (enc f s.side) s.tx := rfl
@[simp] theorem State.tuneWord_rx (s : State) (f : Int) : (s.tuneWord f).rx = s.rx := rfl
@[simp] theorem State.tuneWord_muted (s : State) (f : Int) : (s.tuneWord f).muted = s.muted := rfl
@[simp] theorem State.tuneWord_mutedLeft (s : State) (f : Int) : (s.tuneWord f).mutedLeft = s.mutedLeft := rfl
@[simp] theorem State.tuneWord_mutedRight (s : State) (f : Int) : (s.tuneWord f).mutedRight = s.mutedRight := rfl
@[simp] theorem State.tuneWord_softMuted (s : State) (f : Int) : (s.tuneWord f).softMuted = s.softMuted := rfl
@[simp] theorem State.tuneWord_highCutControl (s : State) (f : Int) : (s.tuneWord f).highCutControl = s.highCutControl := rfl
@[simp] theorem State.tuneWord_stereoNoiseCancelling (s : State) (f : Int) : (s.tuneWord f).stereoNoiseCancelling = s.stereoNoiseCancelling := rfl
@[simp] theorem State.tuneWord_standby (s : State) (f : Int) : (s.tuneWord f).standby = s.standby := rfl
@[simp] theorem State.tuneWord_forcedMono (s : State) (f : Int) : (s.tuneWord f).forcedMono = s.forcedMono := rfl
@[simp] theorem State.tuneWord_side (s : State) (f : Int) : (s.tuneWord f).side = s.side := rfl
@[simp] theorem State.tuneWord_freqNom (s : State) (f : Int) : (s.tuneWord f).freqNom = sext32 f := rfl
@[simp] theorem State.tuneWord_fault (s : State) (f : Int) : (s.tuneWord f).fault = s.fault := rfl
@[simp] theorem State.tuneWord_levHi (s : State) (f : Int) : (s.tuneWord f).levHi = s.levHi := rfl
@[simp] theorem State.tuneWord_levLo (s : State) (f : Int) : (s.tuneWord f).levLo = s.levLo := rfl
@[simp] theorem State.tuneWord_blf (s : State) (f : Int) : (s.tuneWord f).blf = s.blf := rfl
@[simp] theorem State.tuneWord_polls (s : State) (f : Int) : (s.tuneWord f).polls = s.polls := rfl
@[simp] theorem State.tuneWord_phase (s : State) (f : Int) : (s.tuneWord f).phase = s.phase := rfl
@[simp] theorem State.tuneWord_res (s : State) (f : Int) : (s.tuneWord f).res = s.res := rfl
@[simp] theorem State.tuneWord_result (s : State) (f : Int) : (s.tuneWord f).result = s.result := rfl
@[simp] theorem State.tuneWord_muteDuringSearch (s : State) (f : Int) : (s.tuneWord f).muteDuringSearch = s.muteDuringSearch := rfl
@[simp] theorem State.tuneWord_params (s : State) (f : Int) : (s.tuneWord f).params = s.params := rfl
@[simp] theorem State.tuneWord_env (s : State) (f : Int) : (s.tuneWord f).env = s.env := rfl

/-! ### loadFrequency -/

@[simp] theorem State.loadFrequency_tx (s : State) : (s.loadFrequency).tx = copyPllWord s.rx s.tx := rfl
@[simp] theorem State.loadFrequency_rx (s : State) : (s.loadFrequency).rx = s.rx := rfl
@[simp] theorem State.loadFrequency_muted (s : State) : (s.loadFrequency).muted = s.muted := rfl
@[simp] theorem State.loadFrequency_mutedLeft (s : State) : (s.loadFrequency).mutedLeft = s.mutedLeft := rfl
@[simp] theorem State.loadFrequency_mutedRight (s : State) : (s.loadFrequency).mutedRight = s.mutedRight := rfl
@[simp] theorem State.loadFrequency_softMuted (s : State) : (s.loadFrequency).softMuted = s.softMuted := rfl
@[simp] theorem State.loadFrequency_highCutControl (s : State) : (s.loadFrequency).highCutControl = s.highCutControl := rfl
@[simp] theorem State.loadFrequency_stereoNoiseCancelling (s : State) : (s.loadFrequency).stereoNoiseCancelling = s.stereoNoiseCancelling := rfl
@[simp] theorem State.loadFrequency_standby (s : State) : (s.loadFrequency).standby = s.standby := rfl
@[simp] theorem State.loadFrequency_forcedMono (s : State) : (s.loadFrequency).forcedMono = s.forcedMono := rfl
@[simp] theorem State.loadFrequency_side (s : State) : (s.loadFrequency).side = s.side := rfl
@[simp] theorem State.loadFrequency_freqNom (s : State) : (s.loadFrequency).freqNom = sext32 (dec (getPllWord s.rx) s.side) := rfl
@[simp] theorem State.loadFrequency_fault (s : State) : (s.loadFrequency).fault = s.fault := rfl
@[simp] theorem State.loadFrequency_levHi (s : State) : (s.loadFrequency).levHi = s.levHi := rfl
@[simp] theorem State.loadFrequency_levLo (s : State) : (s.loadFrequency).levLo = s.levLo := rfl
@[simp] theorem State.loadFrequency_blf (s : State) : (s.loadFrequency).blf = s.blf := rfl
@[simp] theorem State.loadFrequency_polls (s : State) : (s.loadFrequency).polls = s.polls := rfl
@[simp] theorem State.loadFrequency_phase (s : State) : (s.loadFrequency).phase = s.phase := rfl
@[simp] theorem State.loadFrequency_res (s : State) : (s.loadFrequency).res = s.res := rfl
@[simp] theorem State.loadFrequency_result (s : State) : (s.loadFrequency).result = s.result := rfl
@[simp] theorem State.loadFrequency_muteDuringSearch (s : State) : (s.loadFrequency).muteDuringSearch = s.muteDuringSearch := rfl
@[simp] theorem State.loadFrequency_params (s : State) : (s.loadFrequency).params = s.params := rfl
@[simp] theorem State.loadFrequency_env (s : State) : (s.loadFrequency).env = s.env := rfl

/-! ### busWrite -/

@[simp] theorem State.busWrite_tx (s : State) : (s.busWrite).tx = s.tx := rfl
@[simp] theorem State.busWrite_rx (s : State) : (s.busWrite).rx = s.rx := rfl
@[simp] theorem State.busWrite_muted (s : State) : (s.busWrite).muted = s.muted := rfl
@[simp] theorem State.busWrite_mutedLeft (s : State) : (s.busWrite).mutedLeft = s.mutedLeft := rfl
@[simp] theorem State.busWrite_mutedRight (s : State) : (s.busWrite).mutedRight = s.mutedRight := rfl
@[simp] theorem State.busWrite_softMuted (s : State) : (s.busWrite).softMuted = s.softMuted := rfl
@[simp] theorem State.busWrite_highCutControl (s : State) : (s.busWrite).highCutControl = s.highCutControl := rfl
@[simp] theorem State.busWrite_stereoNoiseCancelling (s : State) : (s.busWrite).stereoNoiseCancelling = s.stereoNoiseCancelling := rfl
@[simp] theorem State.busWrite_standby (s : State) : (s.busWrite).standby = s.standby := rfl
@[simp] theorem State.busWrite_forcedMono (s : State) : (s.busWrite).forcedMono = s.forcedMono := rfl
@[simp] theorem State.busWrite_side (s : State) : (s.busWrite).side = s.side := rfl
@[simp] theorem State.busWrite_freqNom (s : State) : (s.busWrite).freqNom = s.freqNom := rfl
@[simp] theorem State.busWrite_fault (s : State) : (s.busWrite).fault = s.fault := rfl
@[simp] theorem State.busWrite_levHi (s : State) : (s.busWrite).levHi = s.levHi := rfl
@[simp] theorem State.busWrite_levLo (s : State) : (s.busWrite).levLo = s.levLo := rfl
@[simp] theorem State.busWrite_blf (s : State) : (s.busWrite).blf = s.blf := rfl
@[simp] theorem State.busWrite_polls (s : State) : (s.busWrite).polls = s.polls := rfl
@[simp] theorem State.busWrite_phase (s : State) : (s.busWrite).phase = s.phase := rfl
@[simp] theorem State.busWrite_res (s : State) : (s.busWrite).res = s.res := rfl
@[simp] theorem State.busWrite_result (s : State) : (s.busWrite).result = s.result := rfl
@[simp] theorem State.busWrite_muteDuringSearch (s : State) : (s.busWrite).muteDuringSearch = s.muteDuringSearch := rfl
@[simp] theorem State.busWrite_params (s : State) : (s.busWrite).params = s.params := rfl
@[simp] theorem State.busWrite_inputs (s : State) : (s.busWrite).env.inputs = s.env.inputs := rfl
@[simp] theorem State.busWrite_writeAnswers (s : State) : (s.busWrite).env.writeAnswers = s.env.writeAnswers.tail := rfl
@[simp] theorem State.busWrite_readAnswers (s : State) : (s.busWrite).env.readAnswers = s.env.readAnswers := rfl
@[simp] theorem State.busWrite_busCalls (s : State) : (s.busWrite).env.busCalls = s.env.busCalls + 1 := rfl
@[simp] theorem State.busWrite_trace (s : State) : (s.busWrite).env.trace = s.env.trace ++ [.write 0x60 s.tx s.writeAnswer] := rfl

/-! ### busRead -/

@[simp] theorem State.busRead_tx (s : State) : (s.busRead).tx = s.tx := rfl
@[simp] theorem State.busRead_rx (s : State) : (s.busRead).rx = s.rx := rfl
@[simp] theorem State.busRead_muted (s : State) : (s.busRead).muted = s.muted := rfl
@[simp] theorem State.busRead_mutedLeft (s : State) : (s.busRead).mutedLeft = s.mutedLeft := rfl
@[simp] theorem State.busRead_mutedRight (s : State) : (s.busRead).mutedRight = s.mutedRight := rfl
@[simp] theorem State.busRead_softMuted (s : State) : (s.busRead).softMuted = s.softMuted := rfl
@[simp] theorem State.busRead_highCutControl (s : State) : (s.busRead).highCutControl = s.highCutControl := rfl
@[simp] theorem State.busRead_stereoNoiseCancelling (s : State) : (s.busRead).stereoNoiseCancelling = s.stereoNoiseCancelling := rfl
@[simp] theorem State.busRead_standby (s : State) : (s.busRead).standby = s.standby := rfl
@[simp] theorem State.busRead_forcedMono (s : State) : (s.busRead).forcedMono = s.forcedMono := rfl
@[simp] theorem State.busRead_side (s : State) : (s.busRead).side = s.side := rfl
@[simp] theorem State.busRead_freqNom (s : State) : (s.busRead).freqNom = s.freqNom := rfl
@[simp] theorem State.busRead_fault (s : State) : (s.busRead).fault = s.fault := rfl
@[simp] theorem State.busRead_levHi (s : State) : (s.busRead).levHi = s.levHi := rfl
@[simp] theorem State.busRead_levLo (s : State) : (s.busRead).levLo = s.levLo := rfl
@[simp] theorem State.busRead_blf (s : State) : (s.busRead).blf = s.blf := rfl
@[simp] theorem State.busRead_polls (s : State) : (s.busRead).polls = s.polls := rfl
@[simp] theorem State.busRead_phase (s : State) : (s.busRead).phase = s.phase := rfl
@[simp] theorem State.busRead_res (s : State) : (s.busRead).res = s.res := rfl
@[simp] theorem State.busRead_result (s : State) : (s.busRead).result = s.result := rfl
@[simp] theorem State.busRead_muteDuringSearch (s : State) : (s.busRead).muteDuringSearch = s.muteDuringSearch := rfl
@[simp] theorem State.busRead_params (s : State) : (s.busRead).params = s.params := rfl
@[simp] theorem State.busRead_inputs (s : State) : (s.busRead).env.inputs = s.env.inputs := rfl
@[simp] theorem State.busRead_writeAnswers (s : State) : (s.busRead).env.writeAnswers = s.env.writeAnswers := rfl
@[simp] theorem State.busRead_readAnswers (s : State) : (s.busRead).env.readAnswers = s.env.readAnswers.tail := rfl
@[simp] theorem State.busRead_busCalls (s : State) : (s.busRead).env.busCalls = s.env.busCalls + 1 := rfl
@[simp] theorem State.busRead_trace (s : State) : (s.busRead).env.trace = s.env.trace ++ [.read 0x60 5 s.readAnswer] := rfl

/-! ### settle -/

@[simp] theorem State.settle_tx (s : State) : (s.settle).tx = s.tx := rfl
@[simp] theorem State.settle_rx (s : State) : (s.settle).rx = s.rx := rfl
@[simp] theorem State.settle_muted (s : State) : (s.settle).muted = s.muted := rfl
@[simp] theorem State.settle_mutedLeft (s : State) : (s.settle).mutedLeft = s.mutedLeft := rfl
@[simp] theorem State.settle_mutedRight (s : State) : (s.settle).mutedRight = s.mutedRight := rfl
@[simp] theorem State.settle_softMuted (s : State) : (s.settle).softMuted = s.softMuted := rfl
@[simp] theorem State.settle_highCutControl (s : State) : (s.settle).highCutControl = s.highCutControl := rfl
@[simp] theorem State.settle_stereoNoiseCancelling (s : State) : (s.settle).stereoNoiseCancelling = s.stereoNoiseCancelling := rfl
@[simp] theorem State.settle_standby (s : State) : (s.settle).standby = s.standby := rfl
@[simp] theorem State.settle_forcedMono (s : State) : (s.settle).forcedMono = s.forcedMono := rfl
@[simp] theorem State.settle_side (s : State) : (s.settle).side = s.side := rfl
@[simp] theorem State.settle_freqNom (s : State) : (s.settle).freqNom = s.freqNom := rfl
@[simp] theorem State.settle_fault (s : State) : (s.settle).fault = s.fault := rfl
@[simp] theorem State.settle_levHi (s : State) : (s.settle).levHi = s.levHi := rfl
@[simp] theorem State.settle_levLo (s : State) : (s.settle).levLo = s.levLo := rfl
@[simp] theorem State.settle_blf (s : State) : (s.settle).blf = s.blf := rfl
@[simp] theorem State.settle_polls (s : State) : (s.settle).polls = s.polls := rfl
@[simp] theorem State.settle_phase (s : State) : (s.settle).phase = s.phase := rfl
@[simp] theorem State.settle_res (s : State) : (s.settle).res = s.res := rfl
@[simp] theorem State.settle_result (s : State) : (s.settle).result = s.result := rfl
@[simp] theorem State.settle_muteDuringSearch (s : State) : (s.settle).muteDuringSearch = s.muteDuringSearch := rfl
@[simp] theorem State.settle_params (s : State) : (s.settle).params = s.params := rfl
@[simp] theorem State.settle_inputs (s : State) : (s.settle).env.inputs = s.env.inputs := rfl
@[simp] theorem State.settle_writeAnswers (s : State) : (s.settle).env.writeAnswers = s.env.writeAnswers := rfl
@[simp] theorem State.settle_readAnswers (s : State) : (s.settle).env.readAnswers = s.env.readAnswers := rfl
@[simp] theorem State.settle_busCalls (s : State) : (s.settle).env.busCalls = s.env.busCalls := rfl
@[simp] theorem State.settle_trace (s : State) : (s.settle).env.trace = s.env.trace ++ [.delay 100] := rfl

/-! ### withInputs -/

@[simp] theorem State.withInputs_tx (s : State) (l : List HostInput) : (s.withInputs l).tx = s.tx := rfl
@[simp] theorem State.withInputs_rx (s : State) (l : List HostInput) : (s.withInputs l).rx = s.rx := rfl
@[simp] theorem State.withInputs_muted (s : State) (l : List HostInput) : (s.withInputs l).muted = s.muted := rfl
@[simp] theorem State.withInputs_mutedLeft (s : State) (l : List HostInput) : (s.withInputs l).mutedLeft = s.mutedLeft := rfl
@[simp] theorem State.withInputs_mutedRight (s : State) (l : List HostInput) : (s.withInputs l).mutedRight = s.mutedRight := rfl
@[simp] theorem State.withInputs_softMuted (s : State) (l : List HostInput) : (s.withInputs l).softMuted = s.softMuted := rfl
@[simp] theorem State.withInputs_highCutControl (s : State) (l : List HostInput) : (s.withInputs l).highCutControl = s.highCutControl := rfl
@[simp] theorem State.withInputs_stereoNoiseCancelling (s : State) (l : List HostInput) : (s.withInputs l).stereoNoiseCancelling = s.stereoNoiseCancelling := rfl
@[simp] theorem State.withInputs_standby (s : State) (l : List HostInput) : (s.withInputs l).standby = s.standby := rfl
@[simp] theorem State.withInputs_forcedMono (s : State) (l : List HostInput) : (s.withInputs l).forcedMono = s.forcedMono := rfl
@[simp] theorem State.withInputs_side (s : State) (l : List HostInput) : (s.withInputs l).side = s.side := rfl
@[simp] theorem State.withInputs_freqNom (s : State) (l : List HostInput) : (s.withInputs l).freqNom = s.freqNom := rfl
@[simp] theorem State.withInputs_fault (s : State) (l : List HostInput) : (s.withInputs l).fault = s.fault := rfl
@[simp] theorem State.withInputs_levHi (s : State) (l : List HostInput) : (s.withInputs l).levHi = s.levHi := rfl
@[simp] theorem State.withInputs_levLo (s : State) (l : List HostInput) : (s.withInputs l).levLo = s.levLo := rfl
@[simp] theorem State.withInputs_blf (s : State) (l : List HostInput) : (s.withInputs l).blf = s.blf := rfl
@[simp] theorem State.withInputs_polls (s : State) (l : List HostInput) : (s.withInputs l).polls = s.polls := rfl
@[simp] theorem State.withInputs_phase (s : State) (l : List HostInput) : (s.withInputs l).phase = s.phase := rfl
@[simp] theorem State.withInputs_res (s : State) (l : List HostInput) : (s.withInputs l).res = s.res := rfl
@[simp] theorem State.withInputs_result (s : State) (l : List HostInput) : (s.withInputs l).result = s.result := rfl
@[simp] theorem State.withInputs_muteDuringSearch (s : State) (l : List HostInput) : (s.withInputs l).muteDuringSearch = s.muteDuringSearch := rfl
@[simp] theorem State.withInputs_params (s : State) (l : List HostInput) : (s.withInputs l).params = s.params := rfl
@[simp] theorem State.withInputs_inputs (s : State) (l : List HostInput) : (s.withInputs l).env.inputs = l := rfl
@[simp] theorem State.withInputs_writeAnswers (s : State) (l : List HostInput) : (s.withInputs l).env.writeAnswers = s.env.writeAnswers := rfl
@[simp] theorem State.withInputs_readAnswers (s : State) (l : List HostInput) : (s.withInputs l).env.readAnswers = s.env.readAnswers := rfl
@[simp] theorem State.withInputs_busCalls (s : State) (l : List HostInput) : (s.withInputs l).env.busCalls = s.env.busCalls := rfl
@[simp] theorem State.withInputs_trace (s : State) (l : List HostInput) : (s.withInputs l).env.trace = s.env.trace := rfl

/-! ### withCalls -/

@[simp] theorem State.withCalls_tx (s : State) (c : List BusEvent) : (s.withCalls c).tx = s.tx := rfl
@[simp] theorem State.withCalls_rx (s : State) (c : List BusEvent) : (s.withCalls c).rx = s.rx := rfl
@[simp] theorem State.withCalls_muted (s : State) (c : List BusEvent) : (s.withCalls c).muted = s.muted := rfl
@[simp] theorem State.withCalls_mutedLeft (s : State) (c : List BusEvent) : (s.withCalls c).mutedLeft = s.mutedLeft := rfl
@[simp] theorem State.withCalls_mutedRight (s : State) (c : List BusEvent) : (s.withCalls c).mutedRight = s.mutedRight := rfl
@[simp] theorem State.withCalls_softMuted (s : State) (c : List BusEvent) : (s.withCalls c).softMuted = s.softMuted := rfl
@[simp] theorem State.withCalls_highCutControl (s : State) (c : List BusEvent) : (s.withCalls c).highCutControl = s.highCutControl := rfl
@[simp] theorem State.withCalls_stereoNoiseCancelling (s : State) (c : List BusEvent) : (s.withCalls c).stereoNoiseCancelling = s.stereoNoiseCancelling := rfl
@[simp] theorem State.withCalls_standby (s : State) (c : List BusEvent) : (s.withCalls c).standby = s.standby := rfl
@[simp] theorem State.withCalls_forcedMono (s : State) (c : List BusEvent) : (s.withCalls c).forcedMono = s.forcedMono := rfl
@[simp] theorem State.withCalls_side (s : State) (c : List BusEvent) : (s.withCalls c).side = s.side := rfl
@[simp] theorem State.withCalls_freqNom (s : State) (c : List BusEvent) : (s.withCalls c).freqNom = s.freqNom := rfl
@[simp] theorem State.withCalls_fault (s : State) (c : List BusEvent) : (s.withCalls c).fault = s.fault := rfl
@[simp] theorem State.withCalls_levHi (s : State) (c : List BusEvent) : (s.withCalls c).levHi = s.levHi := rfl
@[simp] theorem State.withCalls_levLo (s : State) (c : List BusEvent) : (s.withCalls c).levLo = s.levLo := rfl
@[simp] theorem State.withCalls_blf (s : State) (c : List BusEvent) : (s.withCalls c).blf = s.blf := rfl
@[simp] theorem State.withCalls_polls (s : State) (c : List BusEvent) : (s.withCalls c).polls = s.polls := rfl
@[simp] theorem State.withCalls_phase (s : State) (c : List BusEvent) : (s.withCalls c).phase = s.phase := rfl
@[simp] theorem State.withCalls_res (s : State) (c : List BusEvent) : (s.withCalls c).res = s.res := rfl
@[simp] theorem State.withCalls_result (s : State) (c : List BusEvent) : (s.withCalls c).result = s.result := rfl
@[simp] theorem State.withCalls_muteDuringSearch (s : State) (c : List BusEvent) : (s.withCalls c).muteDuringSearch = s.muteDuringSearch := rfl
@[simp] theorem State.withCalls_params (s : State) (c : List BusEvent) : (s.withCalls c).params = s.params := rfl
@[simp] theorem State.withCalls_inputs (s : State) (c : List BusEvent) : (s.withCalls c).env.inputs = s.env.inputs := rfl
@[simp] theorem State.withCalls_writeAnswers (s : State) (c : List BusEvent) :
    (s.withCalls c).env.writeAnswers = s.env.writeAnswers.drop (c.countP isWrite) := rfl
@[simp] theorem State.withCalls_readAnswers (s : State) (c : List BusEvent) :
    (s.withCalls c).env.readAnswers = s.env.readAnswers.drop (c.countP isRead) := rfl
@[simp] theorem State.withCalls_busCalls (s : State) (c : List BusEvent) :
    (s.withCalls c).env.busCalls = s.env.busCalls + c.countP isWrite + c.countP isRead := rfl
@[simp] theorem State.withCalls_trace (s : State) (c : List BusEvent) : (s.withCalls c).env.trace = s.env.trace ++ c := rfl

end Sys2Proof.Machine
end

