-- ==== Sys2Proof/Laws/Ops.lean ====
section
/-! SUPPORT. For each shared operation one lemma that says once everything it does, as an equation for its
next state; provers cite these instead of unfolding the operations. -/

namespace Sys2Proof.Machine

/-! ### What the widths and the derived constant of 00_scope.md R5 come to -/

theorem pllWord_lt (w : PllWord) : w.toNat < 16384 := w.isLt

theorem freqArg_lt (f : FreqArg) : f.toNat < 268435456 := f.isLt

theorem chanArg_lt (c : ChanArg) : c.toNat < 1024 := c.isLt

theorem level_lt (l : Level) : l.toNat < 16 := l.isLt

/-- A frequency that fits FREQ_W bits is held exactly (00_scope.md R8, R9). -/
theorem sext32_toInt {g : Int} (h1 : -2147483648 ≤ g) (h2 : g < 2147483648) : (sext32 g).toInt = g := by
  have h : (2 ^ Config.freqW : Nat) = 4294967296 := rfl
  simp only [sext32, BitVec.toInt_ofInt, h]
  exact Int.bmod_eq_of_le (by omega) (by omega)

/-- One PLL step is 8192 Hz (00_scope.md R5). -/
@[simp] theorem pllStepHz_eq : Config.pllStepHz = 8192 := by decide

/-- Raising a fault a second time changes nothing (60_exceptions.md R314). -/
theorem State.raise_raise (s : State) (flag : FaultFlag) : (s.raise flag).raise flag = s.raise flag := by
  simp [State.raise, BitVec.or_assoc]

/-- What a refusal leaves (60_exceptions.md R305). -/
theorem State.refuse_eq (s : State) (e : DecodeError) :
    s.refuse e = { s with
      phase := .idle, res := (refusalFlag e).mask, fault := s.fault ||| (refusalFlag e).mask
      result := some { res := (refusalFlag e).mask, val := 0 } } := by
  simp [State.refuse, State.returned, State.raise, State.accept]

/-- Everything TRANSMIT does (43_bus_session.md R221). -/
theorem State.transmit_eq (s : State) :
    s.transmit = { s with
      res := if s.writeAnswer then s.res else s.res ||| 0b00001
      fault := if s.writeAnswer then s.fault else s.fault ||| 0b00001
      env := { s.env with
        writeAnswers := s.env.writeAnswers.tail
        busCalls := s.env.busCalls + 1
        trace := s.env.trace ++ [.write 0x60 s.tx s.writeAnswer, .delay 100] } } := by
  cases h : s.writeAnswer <;>
    simp [State.transmit, State.busWrite, State.raise, State.settle, State.log, FaultFlag.mask,
      Config.devAddr, Config.settleMs, h]

/-- Everything RECEIVE_STATUS does (43_bus_session.md R223). -/
theorem State.receiveStatus_eq (s : State) :
    s.receiveStatus = { s with
      rx := (fullImage s.readAnswer).getD s.rx
      res := if (fullImage s.readAnswer).isSome then s.res else s.res ||| 0b00010
      fault := if (fullImage s.readAnswer).isSome then s.fault else s.fault ||| 0b00010
      env := { s.env with
        readAnswers := s.env.readAnswers.tail
        busCalls := s.env.busCalls + 1
        trace := s.env.trace ++ [.read 0x60 5 s.readAnswer, .delay 100] } } := by
  cases h : fullImage s.readAnswer <;>
    simp [State.receiveStatus, State.busRead, State.storeStatus, State.raise, State.settle, State.log,
      FaultFlag.mask, Config.devAddr, Config.imgLen, Config.settleMs, h]

/-! ### The fields TRANSMIT and RECEIVE_STATUS keep -/

@[simp] theorem State.transmit_tx (s : State) : s.transmit.tx = s.tx := by rw [State.transmit_eq]
@[simp] theorem State.transmit_rx (s : State) : s.transmit.rx = s.rx := by rw [State.transmit_eq]
@[simp] theorem State.transmit_muted (s : State) : s.transmit.muted = s.muted := by rw [State.transmit_eq]
@[simp] theorem State.transmit_mutedLeft (s : State) : s.transmit.mutedLeft = s.mutedLeft := by rw [State.transmit_eq]
@[simp] theorem State.transmit_mutedRight (s : State) : s.transmit.mutedRight = s.mutedRight := by rw [State.transmit_eq]
@[simp] theorem State.transmit_softMuted (s : State) : s.transmit.softMuted = s.softMuted := by rw [State.transmit_eq]
@[simp] theorem State.transmit_highCutControl (s : State) : s.transmit.highCutControl = s.highCutControl := by rw [State.transmit_eq]
@[simp] theorem State.transmit_stereoNoiseCancelling (s : State) : s.transmit.stereoNoiseCancelling = s.stereoNoiseCancelling := by rw [State.transmit_eq]
@[simp] theorem State.transmit_standby (s : State) : s.transmit.standby = s.standby := by rw [State.transmit_eq]
@[simp] theorem State.transmit_forcedMono (s : State) : s.transmit.forcedMono = s.forcedMono := by rw [State.transmit_eq]
@[simp] theorem State.transmit_side (s : State) : s.transmit.side = s.side := by rw [State.transmit_eq]
@[simp] theorem State.transmit_freqNom (s : State) : s.transmit.freqNom = s.freqNom := by rw [State.transmit_eq]
@[simp] theorem State.transmit_levHi (s : State) : s.transmit.levHi = s.levHi := by rw [State.transmit_eq]
@[simp] theorem State.transmit_levLo (s : State) : s.transmit.levLo = s.levLo := by rw [State.transmit_eq]
@[simp] theorem State.transmit_blf (s : State) : s.transmit.blf = s.blf := by rw [State.transmit_eq]
@[simp] theorem State.transmit_polls (s : State) : s.transmit.polls = s.polls := by rw [State.transmit_eq]
@[simp] theorem State.transmit_phase (s : State) : s.transmit.phase = s.phase := by rw [State.transmit_eq]
@[simp] theorem State.transmit_result (s : State) : s.transmit.result = s.result := by rw [State.transmit_eq]
@[simp] theorem State.transmit_muteDuringSearch (s : State) : s.transmit.muteDuringSearch = s.muteDuringSearch := by rw [State.transmit_eq]
@[simp] theorem State.transmit_params (s : State) : s.transmit.params = s.params := by rw [State.transmit_eq]

@[simp] theorem State.transmit_trace (s : State) :
    s.transmit.env.trace = s.env.trace ++ [.write 0x60 s.tx s.writeAnswer, .delay 100] := by
  rw [State.transmit_eq]
@[simp] theorem State.transmit_writeAnswers (s : State) :
    s.transmit.env.writeAnswers = s.env.writeAnswers.tail := by rw [State.transmit_eq]
@[simp] theorem State.transmit_readAnswers (s : State) :
    s.transmit.env.readAnswers = s.env.readAnswers := by rw [State.transmit_eq]
@[simp] theorem State.transmit_inputs (s : State) : s.transmit.env.inputs = s.env.inputs := by
  rw [State.transmit_eq]
@[simp] theorem State.transmit_pollLimit (s : State) : s.transmit.pollLimit = s.pollLimit := by
  simp [State.pollLimit]

@[simp] theorem State.receiveStatus_tx (s : State) : s.receiveStatus.tx = s.tx := by rw [State.receiveStatus_eq]
@[simp] theorem State.receiveStatus_muted (s : State) : s.receiveStatus.muted = s.muted := by rw [State.receiveStatus_eq]
@[simp] theorem State.receiveStatus_mutedLeft (s : State) : s.receiveStatus.mutedLeft = s.mutedLeft := by rw [State.receiveStatus_eq]
@[simp] theorem State.receiveStatus_mutedRight (s : State) : s.receiveStatus.mutedRight = s.mutedRight := by rw [State.receiveStatus_eq]
@[simp] theorem State.receiveStatus_softMuted (s : State) : s.receiveStatus.softMuted = s.softMuted := by rw [State.receiveStatus_eq]
@[simp] theorem State.receiveStatus_highCutControl (s : State) : s.receiveStatus.highCutControl = s.highCutControl := by rw [State.receiveStatus_eq]
@[simp] theorem State.receiveStatus_stereoNoiseCancelling (s : State) : s.receiveStatus.stereoNoiseCancelling = s.stereoNoiseCancelling := by rw [State.receiveStatus_eq]
@[simp] theorem State.receiveStatus_standby (s : State) : s.receiveStatus.standby = s.standby := by rw [State.receiveStatus_eq]
@[simp] theorem State.receiveStatus_forcedMono (s : State) : s.receiveStatus.forcedMono = s.forcedMono := by rw [State.receiveStatus_eq]
@[simp] theorem State.receiveStatus_side (s : State) : s.receiveStatus.side = s.side := by rw [State.receiveStatus_eq]
@[simp] theorem State.receiveStatus_freqNom (s : State) : s.receiveStatus.freqNom = s.freqNom := by rw [State.receiveStatus_eq]
@[simp] theorem State.receiveStatus_levHi (s : State) : s.receiveStatus.levHi = s.levHi := by rw [State.receiveStatus_eq]
@[simp] theorem State.receiveStatus_levLo (s : State) : s.receiveStatus.levLo = s.levLo := by rw [State.receiveStatus_eq]
@[simp] theorem State.receiveStatus_blf (s : State) : s.receiveStatus.blf = s.blf := by rw [State.receiveStatus_eq]
@[simp] theorem State.receiveStatus_polls (s : State) : s.receiveStatus.polls = s.polls := by rw [State.receiveStatus_eq]
@[simp] theorem State.receiveStatus_phase (s : State) : s.receiveStatus.phase = s.phase := by rw [State.receiveStatus_eq]
@[simp] theorem State.receiveStatus_result (s : State) : s.receiveStatus.result = s.result := by rw [State.receiveStatus_eq]
@[simp] theorem State.receiveStatus_muteDuringSearch (s : State) : s.receiveStatus.muteDuringSearch = s.muteDuringSearch := by rw [State.receiveStatus_eq]
@[simp] theorem State.receiveStatus_params (s : State) : s.receiveStatus.params = s.params := by rw [State.receiveStatus_eq]

@[simp] theorem State.receiveStatus_rx (s : State) :
    s.receiveStatus.rx = (fullImage s.readAnswer).getD s.rx := by rw [State.receiveStatus_eq]
@[simp] theorem State.receiveStatus_trace (s : State) :
    s.receiveStatus.env.trace = s.env.trace ++ [.read 0x60 5 s.readAnswer, .delay 100] := by
  rw [State.receiveStatus_eq]
@[simp] theorem State.receiveStatus_writeAnswers (s : State) :
    s.receiveStatus.env.writeAnswers = s.env.writeAnswers := by rw [State.receiveStatus_eq]
@[simp] theorem State.receiveStatus_readAnswers (s : State) :
    s.receiveStatus.env.readAnswers = s.env.readAnswers.tail := by rw [State.receiveStatus_eq]
@[simp] theorem State.receiveStatus_inputs (s : State) :
    s.receiveStatus.env.inputs = s.env.inputs := by rw [State.receiveStatus_eq]
@[simp] theorem State.receiveStatus_pollLimit (s : State) :
    s.receiveStatus.pollLimit = s.pollLimit := by simp [State.pollLimit]

/-- A mirrored flag's write: the boolean takes the value, the TX bit follows (10_state.md R30). -/
theorem State.writeMirror_tx (s : State) (m : Mirror) (v : Bool) :
    (s.writeMirror m v).tx = writeBit m.field v s.tx := by cases m <;> rfl

theorem State.writeMirror_mirror (s : State) (m : Mirror) (v : Bool) :
    (s.writeMirror m v).mirror m = v := by cases m <;> rfl

/-- One poll (44_tuning_search.md R250): RECEIVE_STATUS and the count. -/
theorem State.pollOnce_eq (s : State) :
    s.pollOnce = { s.receiveStatus with polls := s.polls + 1 } := by simp [State.pollOnce]

/-- What one more poll of the loop can lead to (44_tuning_search.md R251): found, given up, or polling on. -/
theorem State.pollLoop_succ_cases (n : Nat) (s : State) :
    (readBit readyField s.pollOnce.rx = true ∧ State.pollLoop (n + 1) s = s.pollOnce.searchLatch) ∨
    (readBit readyField s.pollOnce.rx = false ∧
      limitReached s.pollOnce.pollLimit s.pollOnce.polls = true ∧
      State.pollLoop (n + 1) s = s.pollOnce.searchAbort) ∨
    (readBit readyField s.pollOnce.rx = false ∧
      limitReached s.pollOnce.pollLimit s.pollOnce.polls = false ∧
      State.pollLoop (n + 1) s = State.pollLoop n s.pollOnce) := by
  cases h1 : readBit readyField s.pollOnce.rx <;>
    cases h2 : limitReached s.pollOnce.pollLimit s.pollOnce.polls <;> simp [State.pollLoop, h1, h2]

/-- A search that closes has returned: the block is idle (44_tuning_search.md R251). -/
@[simp] theorem State.searchClose_phase (s : State) : s.searchClose.phase = .idle := by
  simp [State.searchClose]

/-- A search that closes returns `blf` with the `res` it has gathered (44_tuning_search.md R250). -/
theorem State.searchClose_result (s : State) :
    s.searchClose.result = some { res := s.searchClose.res, val := Val.ofBit s.blf } := by
  cases h : s.muteDuringSearch <;> simp [State.searchClose, h, State.muteOff, State.writeMirror]

/-! ### Running does not look at the host's inputs to come (30_encoding.md R110: sampled once, at acceptance) -/

theorem State.transmit_withInputs (s : State) (l : List HostInput) :
    (s.withInputs l).transmit = s.transmit.withInputs l := by
  rw [State.transmit_eq, State.transmit_eq]; rfl

theorem State.receiveStatus_withInputs (s : State) (l : List HostInput) :
    (s.withInputs l).receiveStatus = s.receiveStatus.withInputs l := by
  rw [State.receiveStatus_eq, State.receiveStatus_eq]; rfl

theorem State.searchClose_withInputs (s : State) (l : List HostInput) :
    (s.withInputs l).searchClose = s.searchClose.withInputs l := by
  cases h : s.muteDuringSearch <;>
    simp only [State.searchClose, State.muteOff, State.transmit_eq, State.withInputs_muteDuringSearch, State.writeTxBit, State.writeTx, h] <;> rfl

theorem State.pollLoop_withInputs (n : Nat) (s : State) (l : List HostInput) :
    State.pollLoop n (s.withInputs l) = (State.pollLoop n s).withInputs l := by
  induction n generalizing s with
  | zero => rfl
  | succ n ih =>
    have hp : (s.withInputs l).pollOnce = s.pollOnce.withInputs l := by
      rw [State.pollOnce_eq, State.pollOnce_eq, State.receiveStatus_withInputs]; rfl
    simp only [State.pollLoop, hp, State.withInputs_rx, State.withInputs_polls]
    rw [show (s.pollOnce.withInputs l).pollLimit = s.pollOnce.pollLimit from rfl, ih]
    split
    · simp only [State.searchLatch, ← State.searchClose_withInputs]; rfl
    · split
      · simp only [State.searchAbort, ← State.searchClose_withInputs]; rfl
      · rfl

theorem State.searchPolls_withInputs (s : State) (l : List HostInput) :
    (s.withInputs l).searchPolls = s.searchPolls.withInputs l := State.pollLoop_withInputs _ s l

/-! ### The hardware reset -/

/-- Everything the hardware reset does (70_reset_and_hazards.md R342): every field but the parameters and the
environment at its reset value. -/
theorem State.hardwareReset_eq (s : State) :
    s.hardwareReset = { State.resetWith s.params with env := s.env } := rfl

/-- Everything a reset in the middle of something does (70_reset_and_hazards.md R342). -/
theorem resetDuring_eq (before after : State) (calls : Nat) :
    resetDuring before after calls = ({ State.resetWith before.params with env := before.env } : State).withCalls
      ((newCalls before after).take calls) := rfl

@[simp] theorem State.hardwareReset_params (s : State) : s.hardwareReset.params = s.params := rfl
@[simp] theorem State.hardwareReset_env (s : State) : s.hardwareReset.env = s.env := rfl

end Sys2Proof.Machine
end

