-- ==== Sys2Proof/Laws/Codec.lean ====
section
/-! SUPPORT. The command word's parts (30_encoding.md R111) and the must-be-zero bits of every operand form
(R112). -/

namespace Sys2Proof

theorem CmdWord.getLsbD_make (op : Byte) (arg : Arg) (i : Nat) :
    BitVec.getLsbD (CmdWord.make op arg) i = if i < 32 then arg.getLsbD i else op.getLsbD (i - 32) :=
  BitVec.getLsbD_append

@[simp] theorem CmdWord.op_make (op : Byte) (arg : Arg) : CmdWord.op (CmdWord.make op arg) = op := by
  apply BitVec.eq_of_getLsbD_eq
  intro i hi
  simp [CmdWord.op, CmdWord.getLsbD_make, hi]

@[simp] theorem CmdWord.arg_make (op : Byte) (arg : Arg) : CmdWord.arg (CmdWord.make op arg) = arg := by
  apply BitVec.eq_of_getLsbD_eq
  intro i hi
  simp [CmdWord.arg, CmdWord.getLsbD_make, hi]

theorem CmdWord.make_op_arg (w : CmdWord) : CmdWord.make (CmdWord.op w) (CmdWord.arg w) = w := by
  apply BitVec.eq_of_getLsbD_eq
  intro i hi
  rw [CmdWord.getLsbD_make]
  split
  · simp [CmdWord.arg, *]
  · simp [CmdWord.op, show i - 32 < 8 by omega, show 32 + (i - 32) = i by omega]

theorem CmdWord.make_and (a c : Byte) (b d : Arg) :
    CmdWord.make a b &&& CmdWord.make c d = CmdWord.make (a &&& c) (b &&& d) := by
  apply BitVec.eq_of_getLsbD_eq
  intro i hi
  simp only [BitVec.getLsbD_and, CmdWord.getLsbD_make]
  split <;> simp

theorem byte_and_allOnes (b : Byte) : b &&& 0xFF = b := by
  have : (0xFF : Byte) = BitVec.allOnes 8 := by decide
  rw [this, BitVec.and_allOnes]

/-! ### The must-be-zero bits -/

theorem none_mbz : argNone &&& 0xFFFFFFFF = 0 := by decide

theorem bit_mbz (v : Bool) : argBit v &&& 0xFFFFFFFE = 0 := by cases v <;> decide

theorem level_mbz (l : BitVec 2) : argLevel l &&& 0xFFFFFFFC = 0 := by revert l; decide

theorem flag_mbz (m : Bool) : argFlag m &&& 0xEFFFFFFF = 0 := by cases m <;> decide

theorem dirFlag_mbz (d : Direction) (m : Bool) : argDirFlag d m &&& 0xCFFFFFFF = 0 := by
  cases d <;> cases m <;> decide

theorem word_mbz (w : PllWord) : argWord w &&& 0xFFFFC000 = 0 := by
  ext i hi
  interval_cases i <;> simp [argWord]

theorem freq_mbz (f : FreqArg) : argFreq f &&& 0xF0000000 = 0 := by
  ext i hi
  interval_cases i <;> simp [argFreq]

theorem freqFlag_mbz (f : FreqArg) (m : Bool) : argFreqFlag f m &&& 0xE0000000 = 0 := by
  cases m <;> ext i hi <;> interval_cases i <;> simp [argFreqFlag, argFlag]

theorem freqSide_mbz (f : FreqArg) (s : Side) : argFreqSide f s &&& 0xE0000000 = 0 :=
  freqFlag_mbz f s.bit

theorem wordSide_mbz (w : PllWord) (s : Side) : argWordSide w s &&& 0xEFFFC000 = 0 := by
  cases s <;> ext i hi <;> interval_cases i <;> simp [argWordSide, argFlag, Side.bit]

theorem chanFlag_mbz (c : ChanArg) (m : Bool) : argChanFlag c m &&& 0xEFFFFC00 = 0 := by
  cases m <;> ext i hi <;> interval_cases i <;> simp [argChanFlag, argFlag]

end Sys2Proof
end

