-- ==== Sys2Proof/Laws/PerInstr.lean ====
section
/-! SUPPORT. The per-instruction family TableRow: the word of every command fits its row of
spec/opcode_table.json. The rows' masks and matches are copied from the table, the encoder is written from
30_encoding.md R112 and R114: the family says the two agree. -/

namespace Sys2Proof.Laws.TableRow

/-- The `mask` and `match` of a command's row of spec/opcode_table.json. -/
def row : Instr → CmdWord × CmdWord
  | .setMute _ => (0xfffffffffe, 0x0000000000)
  | .setSearchMode _ => (0xfffffffffe, 0x0100000000)
  | .setPll _ => (0xffffffc000, 0x0200000000)
  | .setSearchDir _ => (0xfffffffffe, 0x0300000000)
  | .setStopLevel _ => (0xfffffffffc, 0x0400000000)
  | .setInjSide _ => (0xfffffffffe, 0x0500000000)
  | .setForcedMono _ => (0xfffffffffe, 0x0600000000)
  | .setMuteRight _ => (0xfffffffffe, 0x0700000000)
  | .setMuteLeft _ => (0xfffffffffe, 0x0800000000)
  | .setAux1 _ => (0xfffffffffe, 0x0900000000)
  | .setAux2 _ => (0xfffffffffe, 0x0a00000000)
  | .setStandby _ => (0xfffffffffe, 0x0b00000000)
  | .setBand _ => (0xfffffffffe, 0x0c00000000)
  | .setXtal _ => (0xfffffffffe, 0x0d00000000)
  | .setSoftMute _ => (0xfffffffffe, 0x0e00000000)
  | .setHcc _ => (0xfffffffffe, 0x0f00000000)
  | .setSnc _ => (0xfffffffffe, 0x1000000000)
  | .setSearchInd _ => (0xfffffffffe, 0x1100000000)
  | .setPllRef _ => (0xfffffffffe, 0x1200000000)
  | .setDeemph _ => (0xfffffffffe, 0x1300000000)
  | .getMute => (0xffffffffff, 0x2000000000)
  | .getSearchMode => (0xffffffffff, 0x2100000000)
  | .getPll => (0xffffffffff, 0x2200000000)
  | .getSearchDir => (0xffffffffff, 0x2300000000)
  | .getStopLevel => (0xffffffffff, 0x2400000000)
  | .getInjSide => (0xffffffffff, 0x2500000000)
  | .getForcedMono => (0xffffffffff, 0x2600000000)
  | .getMuteRight => (0xffffffffff, 0x2700000000)
  | .getMuteLeft => (0xffffffffff, 0x2800000000)
  | .getAux1 => (0xffffffffff, 0x2900000000)
  | .getAux2 => (0xffffffffff, 0x2a00000000)
  | .getStandby => (0xffffffffff, 0x2b00000000)
  | .getBand => (0xffffffffff, 0x2c00000000)
  | .getXtal => (0xffffffffff, 0x2d00000000)
  | .getSoftMute => (0xffffffffff, 0x2e00000000)
  | .getHcc => (0xffffffffff, 0x2f00000000)
  | .getSnc => (0xffffffffff, 0x3000000000)
  | .getSearchInd => (0xffffffffff, 0x3100000000)
  | .getPllRef => (0xffffffffff, 0x3200000000)
  | .getDeemph => (0xffffffffff, 0x3300000000)
  | .getrxReady => (0xffffffffff, 0x4000000000)
  | .getrxBandLimit => (0xffffffffff, 0x4100000000)
  | .getrxLevel => (0xffffffffff, 0x4200000000)
  | .getrxPll => (0xffffffffff, 0x4300000000)
  | .getstMuted => (0xffffffffff, 0x4800000000)
  | .getstMutedLeft => (0xffffffffff, 0x4900000000)
  | .getstMutedRight => (0xffffffffff, 0x4a00000000)
  | .getstSoftMuted => (0xffffffffff, 0x4b00000000)
  | .getstHcc => (0xffffffffff, 0x4c00000000)
  | .getstSnc => (0xffffffffff, 0x4d00000000)
  | .getstStandby => (0xffffffffff, 0x4e00000000)
  | .getstForcedMono => (0xffffffffff, 0x4f00000000)
  | .getstSide => (0xffffffffff, 0x5000000000)
  | .getstFreq => (0xffffffffff, 0x5100000000)
  | .getstFault => (0xffffffffff, 0x5200000000)
  | .encodeFreq _ _ => (0xffe0000000, 0x6000000000)
  | .decodeFreq _ _ => (0xffefffc000, 0x6100000000)
  | .transmit => (0xffffffffff, 0x7000000000)
  | .receiveStatus => (0xffffffffff, 0x7100000000)
  | .selectFrequency _ _ => (0xffe0000000, 0x8000000000)
  | .selectChannel _ _ => (0xffeffffc00, 0x8100000000)
  | .determineInjectionSide _ => (0xfff0000000, 0x8200000000)
  | .search _ _ => (0xffcfffffff, 0x8300000000)
  | .searchFrom _ _ => (0xffe0000000, 0x8400000000)
  | .searchFromBeginning _ => (0xffefffffff, 0x8500000000)
  | .searchFromEnd _ => (0xffefffffff, 0x8600000000)
  | .loadFrequency => (0xffffffffff, 0x8700000000)
  | .toggleMute => (0xffffffffff, 0x9000000000)
  | .toggleMuteLeft => (0xffffffffff, 0x9100000000)
  | .toggleMuteRight => (0xffffffffff, 0x9200000000)
  | .toggleSoftMute => (0xffffffffff, 0x9300000000)
  | .toggleStandby => (0xffffffffff, 0x9400000000)
  | .toggleForcedMono => (0xffffffffff, 0x9500000000)
  | .toggleHcc => (0xffffffffff, 0x9600000000)
  | .toggleSnc => (0xffffffffff, 0x9700000000)

/-- Under the row's mask, the command's word is the row's match. -/
def Statement (i : Instr) : Prop := encode i &&& (row i).1 = (row i).2

/-- A row whose mask covers op wholly and arg by a must-be-zero mask the operands keep clear. -/
theorem row_of_arg {i : Instr} {mask value : CmdWord} {op : Byte} {mbz : Arg}
    (hrow : row i = (mask, value)) (hop : i.opcode = op)
    (hbits : mask = CmdWord.make 0xFF mbz ∧ value = CmdWord.make op 0)
    (h : i.operandBits &&& mbz = 0) : Statement i := by
  unfold Statement
  rw [hrow, hbits.1, hbits.2, encode, CmdWord.make_and, h, byte_and_allOnes, hop]

theorem setMute (v : Bool) : Statement (.setMute v) :=
  row_of_arg (op := 0x00) rfl rfl (by decide) (bit_mbz v)
theorem setSearchMode (v : Bool) : Statement (.setSearchMode v) :=
  row_of_arg (op := 0x01) rfl rfl (by decide) (bit_mbz v)
theorem setPll (w : PllWord) : Statement (.setPll w) :=
  row_of_arg (op := 0x02) rfl rfl (by decide) (word_mbz w)
theorem setSearchDir (v : Bool) : Statement (.setSearchDir v) :=
  row_of_arg (op := 0x03) rfl rfl (by decide) (bit_mbz v)
theorem setStopLevel (l : BitVec 2) : Statement (.setStopLevel l) :=
  row_of_arg (op := 0x04) rfl rfl (by decide) (level_mbz l)
theorem setInjSide (v : Bool) : Statement (.setInjSide v) :=
  row_of_arg (op := 0x05) rfl rfl (by decide) (bit_mbz v)
theorem setForcedMono (v : Bool) : Statement (.setForcedMono v) :=
  row_of_arg (op := 0x06) rfl rfl (by decide) (bit_mbz v)
theorem setMuteRight (v : Bool) : Statement (.setMuteRight v) :=
  row_of_arg (op := 0x07) rfl rfl (by decide) (bit_mbz v)
theorem setMuteLeft (v : Bool) : Statement (.setMuteLeft v) :=
  row_of_arg (op := 0x08) rfl rfl (by decide) (bit_mbz v)
theorem setAux1 (v : Bool) : Statement (.setAux1 v) :=
  row_of_arg (op := 0x09) rfl rfl (by decide) (bit_mbz v)
theorem setAux2 (v : Bool) : Statement (.setAux2 v) :=
  row_of_arg (op := 0x0A) rfl rfl (by decide) (bit_mbz v)
theorem setStandby (v : Bool) : Statement (.setStandby v) :=
  row_of_arg (op := 0x0B) rfl rfl (by decide) (bit_mbz v)
theorem setBand (v : Bool) : Statement (.setBand v) :=
  row_of_arg (op := 0x0C) rfl rfl (by decide) (bit_mbz v)
theorem setXtal (v : Bool) : Statement (.setXtal v) :=
  row_of_arg (op := 0x0D) rfl rfl (by decide) (bit_mbz v)
theorem setSoftMute (v : Bool) : Statement (.setSoftMute v) :=
  row_of_arg (op := 0x0E) rfl rfl (by decide) (bit_mbz v)
theorem setHcc (v : Bool) : Statement (.setHcc v) :=
  row_of_arg (op := 0x0F) rfl rfl (by decide) (bit_mbz v)
theorem setSnc (v : Bool) : Statement (.setSnc v) :=
  row_of_arg (op := 0x10) rfl rfl (by decide) (bit_mbz v)
theorem setSearchInd (v : Bool) : Statement (.setSearchInd v) :=
  row_of_arg (op := 0x11) rfl rfl (by decide) (bit_mbz v)
theorem setPllRef (v : Bool) : Statement (.setPllRef v) :=
  row_of_arg (op := 0x12) rfl rfl (by decide) (bit_mbz v)
theorem setDeemph (v : Bool) : Statement (.setDeemph v) :=
  row_of_arg (op := 0x13) rfl rfl (by decide) (bit_mbz v)
theorem getMute : Statement .getMute :=
  row_of_arg (op := 0x20) rfl rfl (by decide) none_mbz
theorem getSearchMode : Statement .getSearchMode :=
  row_of_arg (op := 0x21) rfl rfl (by decide) none_mbz
theorem getPll : Statement .getPll :=
  row_of_arg (op := 0x22) rfl rfl (by decide) none_mbz
theorem getSearchDir : Statement .getSearchDir :=
  row_of_arg (op := 0x23) rfl rfl (by decide) none_mbz
theorem getStopLevel : Statement .getStopLevel :=
  row_of_arg (op := 0x24) rfl rfl (by decide) none_mbz
theorem getInjSide : Statement .getInjSide :=
  row_of_arg (op := 0x25) rfl rfl (by decide) none_mbz
theorem getForcedMono : Statement .getForcedMono :=
  row_of_arg (op := 0x26) rfl rfl (by decide) none_mbz
theorem getMuteRight : Statement .getMuteRight :=
  row_of_arg (op := 0x27) rfl rfl (by decide) none_mbz
theorem getMuteLeft : Statement .getMuteLeft :=
  row_of_arg (op := 0x28) rfl rfl (by decide) none_mbz
theorem getAux1 : Statement .getAux1 :=
  row_of_arg (op := 0x29) rfl rfl (by decide) none_mbz
theorem getAux2 : Statement .getAux2 :=
  row_of_arg (op := 0x2A) rfl rfl (by decide) none_mbz
theorem getStandby : Statement .getStandby :=
  row_of_arg (op := 0x2B) rfl rfl (by decide) none_mbz
theorem getBand : Statement .getBand :=
  row_of_arg (op := 0x2C) rfl rfl (by decide) none_mbz
theorem getXtal : Statement .getXtal :=
  row_of_arg (op := 0x2D) rfl rfl (by decide) none_mbz
theorem getSoftMute : Statement .getSoftMute :=
  row_of_arg (op := 0x2E) rfl rfl (by decide) none_mbz
theorem getHcc : Statement .getHcc :=
  row_of_arg (op := 0x2F) rfl rfl (by decide) none_mbz
theorem getSnc : Statement .getSnc :=
  row_of_arg (op := 0x30) rfl rfl (by decide) none_mbz
theorem getSearchInd : Statement .getSearchInd :=
  row_of_arg (op := 0x31) rfl rfl (by decide) none_mbz
theorem getPllRef : Statement .getPllRef :=
  row_of_arg (op := 0x32) rfl rfl (by decide) none_mbz
theorem getDeemph : Statement .getDeemph :=
  row_of_arg (op := 0x33) rfl rfl (by decide) none_mbz
theorem getrxReady : Statement .getrxReady :=
  row_of_arg (op := 0x40) rfl rfl (by decide) none_mbz
theorem getrxBandLimit : Statement .getrxBandLimit :=
  row_of_arg (op := 0x41) rfl rfl (by decide) none_mbz
theorem getrxLevel : Statement .getrxLevel :=
  row_of_arg (op := 0x42) rfl rfl (by decide) none_mbz
theorem getrxPll : Statement .getrxPll :=
  row_of_arg (op := 0x43) rfl rfl (by decide) none_mbz
theorem getstMuted : Statement .getstMuted :=
  row_of_arg (op := 0x48) rfl rfl (by decide) none_mbz
theorem getstMutedLeft : Statement .getstMutedLeft :=
  row_of_arg (op := 0x49) rfl rfl (by decide) none_mbz
theorem getstMutedRight : Statement .getstMutedRight :=
  row_of_arg (op := 0x4A) rfl rfl (by decide) none_mbz
theorem getstSoftMuted : Statement .getstSoftMuted :=
  row_of_arg (op := 0x4B) rfl rfl (by decide) none_mbz
theorem getstHcc : Statement .getstHcc :=
  row_of_arg (op := 0x4C) rfl rfl (by decide) none_mbz
theorem getstSnc : Statement .getstSnc :=
  row_of_arg (op := 0x4D) rfl rfl (by decide) none_mbz
theorem getstStandby : Statement .getstStandby :=
  row_of_arg (op := 0x4E) rfl rfl (by decide) none_mbz
theorem getstForcedMono : Statement .getstForcedMono :=
  row_of_arg (op := 0x4F) rfl rfl (by decide) none_mbz
theorem getstSide : Statement .getstSide :=
  row_of_arg (op := 0x50) rfl rfl (by decide) none_mbz
theorem getstFreq : Statement .getstFreq :=
  row_of_arg (op := 0x51) rfl rfl (by decide) none_mbz
theorem getstFault : Statement .getstFault :=
  row_of_arg (op := 0x52) rfl rfl (by decide) none_mbz
theorem encodeFreq (f : FreqArg) (s : Side) : Statement (.encodeFreq f s) :=
  row_of_arg (op := 0x60) rfl rfl (by decide) (freqSide_mbz f s)
theorem decodeFreq (w : PllWord) (s : Side) : Statement (.decodeFreq w s) :=
  row_of_arg (op := 0x61) rfl rfl (by decide) (wordSide_mbz w s)
theorem transmit : Statement .transmit :=
  row_of_arg (op := 0x70) rfl rfl (by decide) none_mbz
theorem receiveStatus : Statement .receiveStatus :=
  row_of_arg (op := 0x71) rfl rfl (by decide) none_mbz
theorem selectFrequency (f : FreqArg) (m : Bool) : Statement (.selectFrequency f m) :=
  row_of_arg (op := 0x80) rfl rfl (by decide) (freqFlag_mbz f m)
theorem selectChannel (c : ChanArg) (m : Bool) : Statement (.selectChannel c m) :=
  row_of_arg (op := 0x81) rfl rfl (by decide) (chanFlag_mbz c m)
theorem determineInjectionSide (f : FreqArg) : Statement (.determineInjectionSide f) :=
  row_of_arg (op := 0x82) rfl rfl (by decide) (freq_mbz f)
theorem search (d : Direction) (m : Bool) : Statement (.search d m) :=
  row_of_arg (op := 0x83) rfl rfl (by decide) (dirFlag_mbz d m)
theorem searchFrom (f : FreqArg) (m : Bool) : Statement (.searchFrom f m) :=
  row_of_arg (op := 0x84) rfl rfl (by decide) (freqFlag_mbz f m)
theorem searchFromBeginning (m : Bool) : Statement (.searchFromBeginning m) :=
  row_of_arg (op := 0x85) rfl rfl (by decide) (flag_mbz m)
theorem searchFromEnd (m : Bool) : Statement (.searchFromEnd m) :=
  row_of_arg (op := 0x86) rfl rfl (by decide) (flag_mbz m)
theorem loadFrequency : Statement .loadFrequency :=
  row_of_arg (op := 0x87) rfl rfl (by decide) none_mbz
theorem toggleMute : Statement .toggleMute :=
  row_of_arg (op := 0x90) rfl rfl (by decide) none_mbz
theorem toggleMuteLeft : Statement .toggleMuteLeft :=
  row_of_arg (op := 0x91) rfl rfl (by decide) none_mbz
theorem toggleMuteRight : Statement .toggleMuteRight :=
  row_of_arg (op := 0x92) rfl rfl (by decide) none_mbz
theorem toggleSoftMute : Statement .toggleSoftMute :=
  row_of_arg (op := 0x93) rfl rfl (by decide) none_mbz
theorem toggleStandby : Statement .toggleStandby :=
  row_of_arg (op := 0x94) rfl rfl (by decide) none_mbz
theorem toggleForcedMono : Statement .toggleForcedMono :=
  row_of_arg (op := 0x95) rfl rfl (by decide) none_mbz
theorem toggleHcc : Statement .toggleHcc :=
  row_of_arg (op := 0x96) rfl rfl (by decide) none_mbz
theorem toggleSnc : Statement .toggleSnc :=
  row_of_arg (op := 0x97) rfl rfl (by decide) none_mbz

end Sys2Proof.Laws.TableRow
end

