-- ==== Sys2Proof/Laws/Step.lean ====
section
/-! SUPPORT. Everything one step can do (30_encoding.md R110, 70_reset_and_hazards.md R342), said once:
claims about all steps cite `step_cases` instead of unfolding `step`. -/

namespace Sys2Proof.Machine

theorem State.withInputs_self {s : State} {l : List HostInput} (h : s.env.inputs = l) : s.withInputs l = s := by
  subst h
  rfl

/-- While a search polls and the host asserts no reset, a step is the search's own. -/
theorem step_polling {s : State} {rest : List HostInput} (hp : s.phase = .sPoll)
    (hh : s.HostLeavesAlone rest) : step s = .next (s.searchPolls.withInputs rest) := by
  rcases hh with ⟨h, rfl⟩ | h | ⟨w, h⟩
  · simp [step, hp, stepPolling, h, ← State.searchPolls_withInputs, State.withInputs_self h]
  · simp [step, hp, stepPolling, h, ← State.searchPolls_withInputs]
  · simp [step, hp, stepPolling, h, ← State.searchPolls_withInputs]

/-- The six things a step can be: an idle block waits, runs or refuses a word, is reset, or is reset in the
middle of a word; a search polls on, or is reset. -/
theorem step_cases {s t : State} (h : step s = .next t) : ∃ rest,
    (s.phase = .idle ∧ ((s.env.inputs = [] ∧ rest = []) ∨ s.env.inputs = .nothing :: rest) ∧
      t = s.withInputs rest) ∨
    (∃ w, s.phase = .idle ∧ s.env.inputs = .command w :: rest ∧ runWord w (s.withInputs rest) = .next t) ∨
    (∃ n, s.phase = .idle ∧ s.env.inputs = .reset n :: rest ∧ t = (s.withInputs rest).hardwareReset) ∨
    (∃ w n u, s.phase = .idle ∧ s.env.inputs = .commandCut w n :: rest ∧
      runWord w (s.withInputs rest) = .next u ∧ t = resetDuring (s.withInputs rest) u n) ∨
    (s.phase = .sPoll ∧ s.HostLeavesAlone rest ∧ t = s.searchPolls.withInputs rest) ∨
    (∃ n, s.phase = .sPoll ∧ s.HostResets n rest ∧
      t = resetDuring (s.withInputs rest) (s.searchPolls.withInputs rest) n) := by
  rw [step] at h
  split at h
  · rename_i hp
    rw [stepIdle] at h
    split at h <;> rename_i hi
    · injection h with h
      exact ⟨[], .inl ⟨hp, .inl ⟨hi, rfl⟩, by rw [State.withInputs_self hi, h]⟩⟩
    · injection h with h
      exact ⟨_, .inl ⟨hp, .inr hi, h.symm⟩⟩
    · exact ⟨_, .inr (.inl ⟨_, hp, hi, h⟩)⟩
    · rename_i w n rest
      cases hu : runWord w (s.withInputs rest) with
      | next u =>
        rw [hu, cutOutcome] at h
        injection h with h
        exact ⟨_, .inr (.inr (.inr (.inl ⟨w, n, u, hp, hi, hu, h.symm⟩)))⟩
      | fault r => rw [hu, cutOutcome] at h; cases h
      | refused r => rw [hu, cutOutcome] at h; cases h
    · injection h with h
      exact ⟨_, .inr (.inr (.inl ⟨_, hp, hi, h.symm⟩))⟩
  · rename_i hp
    rw [stepPolling] at h
    split at h <;> rename_i hi <;> injection h with h <;> rw [← h]
    · exact ⟨[], .inr (.inr (.inr (.inr (.inl ⟨hp, .inl ⟨hi, rfl⟩, by
        rw [← State.searchPolls_withInputs, State.withInputs_self hi]⟩))))⟩
    · exact ⟨_, .inr (.inr (.inr (.inr (.inl ⟨hp, .inr (.inl hi), State.searchPolls_withInputs _ _⟩))))⟩
    · exact ⟨_, .inr (.inr (.inr (.inr (.inl ⟨hp, .inr (.inr ⟨_, hi⟩), State.searchPolls_withInputs _ _⟩))))⟩
    · exact ⟨_, .inr (.inr (.inr (.inr (.inr ⟨_, hp, .inr ⟨_, hi⟩, by rw [State.searchPolls_withInputs]⟩))))⟩
    · exact ⟨_, .inr (.inr (.inr (.inr (.inr ⟨_, hp, .inl hi, by rw [State.searchPolls_withInputs]⟩))))⟩
  · cases h

end Sys2Proof.Machine
end

