-- ==== Sys2Proof/Laws/Traffic.lean ====
section
/-! SUPPORT. The bus traffic of the shared operations in one normal form, `State.after`: the primitive calls
made and the fault bits gathered since a state. TRANSMIT and RECEIVE_STATUS are such steps, and they compose
(20_memory.md R67). -/

namespace Sys2Proof.Machine

/-- The state after the primitive calls `calls`, with the fault bits `bits` raised among them. -/
def State.after (s : State) (calls : List BusEvent) (bits : FaultBits) : State :=
  { s.withCalls calls with res := s.res ||| bits, fault := s.fault ||| bits }

@[simp] theorem writeCalls_writes (im : Image) (ok : Bool) : (writeCalls im ok).countP isWrite = 1 := rfl
@[simp] theorem writeCalls_reads (im : Image) (ok : Bool) : (writeCalls im ok).countP isRead = 0 := rfl
@[simp] theorem readCalls_writes (d : BusData) : (readCalls d).countP isWrite = 0 := rfl
@[simp] theorem readCalls_reads (d : BusData) : (readCalls d).countP isRead = 1 := rfl

theorem fullImage_getD (rx : Image) (d : BusData) : (fullImage d).getD rx = rxAfter rx d := by cases d <;> rfl

theorem State.writeAnswer_eq (s : State) : s.writeAnswer = s.writeAnswerAt 0 0 := by
  unfold State.writeAnswer State.writeAnswerAt
  cases s.env.writeAnswers <;> rfl

theorem State.readAnswer_eq (s : State) : s.readAnswer = s.readAnswerAt 0 0 := by
  unfold State.readAnswer State.readAnswerAt
  cases s.env.readAnswers <;> rfl

/-- TRANSMIT in normal form (43_bus_session.md R221). -/
theorem State.transmit_after (s : State) :
    s.transmit = s.after (writeCalls s.tx (s.writeAnswerAt 0 0)) (writeFault (s.writeAnswerAt 0 0)) := by
  rw [State.transmit_eq, State.writeAnswer_eq]
  cases s.writeAnswerAt 0 0 <;>
    simp only [State.after, State.withCalls, writeCalls_writes, writeCalls_reads, writeFault] <;>
    simp [writeCalls]

/-- RECEIVE_STATUS in normal form (43_bus_session.md R223). -/
theorem State.receiveStatus_after (s : State) :
    s.receiveStatus = ({ s with rx := rxAfter s.rx (s.readAnswerAt 0 0) }).after
      (readCalls (s.readAnswerAt 0 0)) (readFault (s.readAnswerAt 0 0)) := by
  rw [State.receiveStatus_eq, State.readAnswer_eq, fullImage_getD]
  cases s.readAnswerAt 0 0 <;>
    simp only [State.after, State.withCalls, readCalls_writes, readCalls_reads, readFault, fullImage] <;>
    simp [readCalls]

theorem State.withCalls_append (s : State) (c c' : List BusEvent) :
    (s.withCalls c).withCalls c' = s.withCalls (c ++ c') := by
  simp [State.withCalls]
  omega

theorem State.after_after (s : State) (c c' : List BusEvent) (b b' : FaultBits) :
    (s.after c b).after c' b' = s.after (c ++ c') (b ||| b') := by
  simp [State.after, State.withCalls, BitVec.or_assoc]
  omega

/-- An answer still to come, seen from after some calls. -/
theorem State.after_writeAnswerAt (s : State) (c : List BusEvent) (b : FaultBits) (calls writes : Nat) :
    (s.after c b).writeAnswerAt calls writes =
      s.writeAnswerAt (c.countP isWrite + c.countP isRead + calls) (c.countP isWrite + writes) := by
  simp [State.after, State.withCalls, State.writeAnswerAt, Nat.add_assoc]

/-- An answer still to come, seen from after some calls. -/
theorem State.after_readAnswerAt (s : State) (c : List BusEvent) (b : FaultBits) (calls reads : Nat) :
    (s.after c b).readAnswerAt calls reads =
      s.readAnswerAt (c.countP isWrite + c.countP isRead + calls) (c.countP isRead + reads) := by
  simp [State.after, State.withCalls, State.readAnswerAt, Nat.add_assoc]

/-- A command's state after its calls, returned: the form the obligations' right sides have. -/
theorem State.after_returned (s : State) (c : List BusEvent) (b : FaultBits) (val : Val) :
    (s.accept.after c b).returned val = (s.withCalls c).ended b val := by
  simp [State.after, State.accept, State.withCalls, State.returned, State.ended]

end Sys2Proof.Machine
end

