-- ==== Sys2Proof/Tests/Slice0.lean ====
section
/-! SUPPORT. The model's own tests: the smoke test of WellFormed, the decoding of a word of every command
written out from the encoding line of its rule, one step of every command against the numbers of the rules'
examples and of 95_test_vectors.md (hand-derived there from the rules, not from a run), and for every
obligation with hypotheses a witness that meets them. -/

namespace Sys2Proof.Tests

open Sys2Proof.Machine

/-- An image from its five bytes. -/
def img (a b c d e : Byte) : Image := { b0 := a, b1 := b, b2 := c, b3 := d, b4 := e }

/-- A machine with the images given, the mirrors and the side in step with TX, and nothing else set. -/
def machine (tx rx : Image) : State :=
  { State.resetWith { resetParams with resetRx := rx } with
    tx := tx
    muted := tx.b0.getLsbD 7, mutedLeft := tx.b2.getLsbD 1, mutedRight := tx.b2.getLsbD 2
    softMuted := tx.b3.getLsbD 3, highCutControl := tx.b3.getLsbD 2
    stereoNoiseCancelling := tx.b3.getLsbD 1, standby := tx.b3.getLsbD 6, forcedMono := tx.b2.getLsbD 3
    side := if tx.b2.getLsbD 4 then .high else .low }

/-- The machine built with this MAX_POLLS, and the bus's answers scripted. -/
def withBus (s : State) (writes : List Bool) (reads : List BusData) (limit : PollLimit) : State :=
  { s with
    params := { s.params with maxPolls := some limit }
    env := { s.env with writeAnswers := writes, readAnswers := reads } }

/-- The state after one step that runs the word `word`. -/
def ran (word : Nat) (s : State) : Option State :=
  match step (s.withFetchWord 40 word) with
  | .next t => some t
  | .fault _ => none
  | .refused _ => none

/-- What a codec test looks at: TX, the result, and the bus calls made. -/
def codec (o : Option State) : Option (Image × Option Result × Nat) :=
  o.map fun t => (t.tx, t.result, t.env.trace.length)

/-- What a bus test looks at: TX, the result, and the trace. -/
def traffic (o : Option State) : Option (Image × Option Result × List BusEvent) :=
  o.map fun t => (t.tx, t.result, t.env.trace)

/-- A result with no fault. -/
def fine (val : Val) : Option Result := some { res := 0, val := val }

/-- `W[...]/ok D(100)` and `R/[...] D(100)` of the spec's trace notation. -/
def W (im : Image) : List BusEvent := [.write 0x60 im true, .delay 100]
def R (im : Image) : List BusEvent := [.read 0x60 5 (.five im.b0 im.b1 im.b2 im.b3 im.b4), .delay 100]

/-- A full answer. -/
def full (im : Image) : BusData := .five im.b0 im.b1 im.b2 im.b3 im.b4

/-! ## WellFormed -/

/-- The one check of WellFormed: stop level code 0 is reserved (30_encoding.md R101, R115). -/
theorem test_wf_refuses_stop_level_zero : (Instr.setStopLevel 0).wf = false := by decide

theorem test_wf_accepts_stop_levels :
    (Instr.setStopLevel 1).wf = true ∧ (Instr.setStopLevel 2).wf = true ∧ (Instr.setStopLevel 3).wf = true := by
  decide

/-! ## Decode: a word of every command, from the encoding line of its rule -/

/-- Encoding lines of R131 to R140: op, then V = arg[0] (arg[13:0] for SET_PLL, arg[1:0] for SET_STOP_LEVEL). -/
theorem test_decode_setters_first :
    decode 0x0000000001 = .ok (.setMute true) ∧
    decode 0x0100000001 = .ok (.setSearchMode true) ∧
    decode 0x020000339B = .ok (.setPll 0x339B) ∧
    decode 0x0300000001 = .ok (.setSearchDir true) ∧
    decode 0x0400000002 = .ok (.setStopLevel 2) ∧
    decode 0x0500000001 = .ok (.setInjSide true) ∧
    decode 0x0600000001 = .ok (.setForcedMono true) ∧
    decode 0x0700000001 = .ok (.setMuteRight true) ∧
    decode 0x0800000001 = .ok (.setMuteLeft true) ∧
    decode 0x0900000001 = .ok (.setAux1 true) := by decide

/-- Encoding lines of R141 to R150. -/
theorem test_decode_setters_second :
    decode 0x0A00000001 = .ok (.setAux2 true) ∧
    decode 0x0B00000001 = .ok (.setStandby true) ∧
    decode 0x0C00000001 = .ok (.setBand true) ∧
    decode 0x0D00000001 = .ok (.setXtal true) ∧
    decode 0x0E00000001 = .ok (.setSoftMute true) ∧
    decode 0x0F00000001 = .ok (.setHcc true) ∧
    decode 0x1000000001 = .ok (.setSnc true) ∧
    decode 0x1100000001 = .ok (.setSearchInd true) ∧
    decode 0x1200000001 = .ok (.setPllRef true) ∧
    decode 0x1300000001 = .ok (.setDeemph true) := by decide

/-- A V of 0 is the operand false. -/
theorem test_decode_setters_zero :
    decode 0x0000000000 = .ok (.setMute false) ∧
    decode 0x0500000000 = .ok (.setInjSide false) ∧
    decode 0x0D00000000 = .ok (.setXtal false) := by decide

/-- Encoding lines of R161 to R170: arg = 0. -/
theorem test_decode_tx_getters_first :
    decode 0x2000000000 = .ok .getMute ∧
    decode 0x2100000000 = .ok .getSearchMode ∧
    decode 0x2200000000 = .ok .getPll ∧
    decode 0x2300000000 = .ok .getSearchDir ∧
    decode 0x2400000000 = .ok .getStopLevel ∧
    decode 0x2500000000 = .ok .getInjSide ∧
    decode 0x2600000000 = .ok .getForcedMono ∧
    decode 0x2700000000 = .ok .getMuteRight ∧
    decode 0x2800000000 = .ok .getMuteLeft ∧
    decode 0x2900000000 = .ok .getAux1 := by decide

/-- Encoding lines of R171 to R180. -/
theorem test_decode_tx_getters_second :
    decode 0x2A00000000 = .ok .getAux2 ∧
    decode 0x2B00000000 = .ok .getStandby ∧
    decode 0x2C00000000 = .ok .getBand ∧
    decode 0x2D00000000 = .ok .getXtal ∧
    decode 0x2E00000000 = .ok .getSoftMute ∧
    decode 0x2F00000000 = .ok .getHcc ∧
    decode 0x3000000000 = .ok .getSnc ∧
    decode 0x3100000000 = .ok .getSearchInd ∧
    decode 0x3200000000 = .ok .getPllRef ∧
    decode 0x3300000000 = .ok .getDeemph := by decide

/-- Encoding lines of R181 to R195. -/
theorem test_decode_rx_and_state_getters :
    decode 0x4000000000 = .ok .getrxReady ∧
    decode 0x4100000000 = .ok .getrxBandLimit ∧
    decode 0x4200000000 = .ok .getrxLevel ∧
    decode 0x4300000000 = .ok .getrxPll ∧
    decode 0x4800000000 = .ok .getstMuted ∧
    decode 0x4900000000 = .ok .getstMutedLeft ∧
    decode 0x4A00000000 = .ok .getstMutedRight ∧
    decode 0x4B00000000 = .ok .getstSoftMuted ∧
    decode 0x4C00000000 = .ok .getstHcc ∧
    decode 0x4D00000000 = .ok .getstSnc ∧
    decode 0x4E00000000 = .ok .getstStandby ∧
    decode 0x4F00000000 = .ok .getstForcedMono ∧
    decode 0x5000000000 = .ok .getstSide ∧
    decode 0x5100000000 = .ok .getstFreq ∧
    decode 0x5200000000 = .ok .getstFault := by decide

/-- Commands of the examples of R203 and R204: F = arg[27:0], W = arg[13:0], M = arg[28], 1 being HIGH. -/
theorem test_decode_converter :
    decode 0x60153D3F60 = .ok (.encodeFreq 87900000 .high) ∧
    decode 0x60053D3F60 = .ok (.encodeFreq 87900000 .low) ∧
    decode 0x6110002A05 = .ok (.decodeFreq 0x2A05 .high) ∧
    decode 0x61000029CF = .ok (.decodeFreq 0x29CF .low) := by decide

/-- Commands of the examples of R221, R223, R240, R242, R244, R246. -/
theorem test_decode_session_and_tuning :
    decode 0x7000000000 = .ok .transmit ∧
    decode 0x7100000000 = .ok .receiveStatus ∧
    decode 0x80053D3F60 = .ok (.selectFrequency 87900000 false) ∧
    decode 0x80153D3F60 = .ok (.selectFrequency 87900000 true) ∧
    decode 0x81000000C8 = .ok (.selectChannel 200 false) ∧
    decode 0x81100001AF = .ok (.selectChannel 431 true) ∧
    decode 0x82053D3F60 = .ok (.determineInjectionSide 87900000) ∧
    decode 0x8700000000 = .ok .loadFrequency := by decide

/-- Commands of 95_test_vectors.md 2.6 and of the examples of R250, R256, R258, R259: U = arg[29], 1 being up. -/
theorem test_decode_search :
    decode 0x8320000000 = .ok (.search .up false) ∧
    decode 0x8310000000 = .ok (.search .down true) ∧
    decode 0x84052F83C0 = .ok (.searchFrom 87000000 false) ∧
    decode 0x84152F83C0 = .ok (.searchFrom 87000000 true) ∧
    decode 0x8500000000 = .ok (.searchFromBeginning false) ∧
    decode 0x8510000000 = .ok (.searchFromBeginning true) ∧
    decode 0x8610000000 = .ok (.searchFromEnd true) := by decide

/-- Encoding lines of R281 to R288. -/
theorem test_decode_toggles :
    decode 0x9000000000 = .ok .toggleMute ∧
    decode 0x9100000000 = .ok .toggleMuteLeft ∧
    decode 0x9200000000 = .ok .toggleMuteRight ∧
    decode 0x9300000000 = .ok .toggleSoftMute ∧
    decode 0x9400000000 = .ok .toggleStandby ∧
    decode 0x9500000000 = .ok .toggleForcedMono ∧
    decode 0x9600000000 = .ok .toggleHcc ∧
    decode 0x9700000000 = .ok .toggleSnc := by decide

/-- Reserved ops, at the ends of the eight ranges (30_encoding.md R115), whatever arg holds. -/
theorem test_decode_reserved_ops :
    [0x1400000000, 0x1FFFFFFFFF, 0x3400000001, 0x3F00000000, 0x4400000000, 0x4700000000, 0x5300000000,
      0x5F00000000, 0x6200000000, 0x6F00000000, 0x7200000000, 0x7F00000000, 0x8800000000, 0x8F00000000,
      0x9800000000, 0xFF12345678].all (fun x => decode x == .error .illegalCommand) = true := by decide

/-- One must-be-zero bit set in each operand shape of 30_encoding.md R112, and stop level code 0. -/
theorem test_decode_must_be_zero :
    [0x0000000002, 0x0080000001, 0x0200004000, 0x0400000000, 0x0400000005, 0x2200000001, 0x5280000000,
      0x6020000000, 0x6100004000, 0x6120000000, 0x7000000001, 0x7180000000, 0x80253D3F60, 0x8100000400,
      0x8120000000, 0x8210000000, 0x8340000000, 0x8300000001, 0x8420000000, 0x8500000001, 0x8620000000,
      0x8700000001, 0x9000000001].all (fun x => decode x == .error .illegalOperand) = true := by decide

/-- The decoder's table interface: the row's bits are the low bits of the word, and a reserved op is no
instruction. -/
theorem test_decodeTableWord :
    decodeTableWord 40 0x020000339B = some (.setPll 0x339B) ∧ decodeTableWord 40 0x1400000000 = none := by
  decide

/-! ## Setters: 95_test_vectors.md 2.1, from the all-ones and the all-zeros image -/

def ones : State := machine (img 0xFF 0xFF 0xFF 0xFF 0xC0) (img 0 0 0 0 0)
def zeros : State := machine (img 0x00 0x00 0x20 0x00 0x00) (img 0 0 0 0 0)

theorem test_set_mute_ones :
    codec (ran 0x0000000000 ones) = some (img 0x7F 0xFF 0xFF 0xFF 0xC0, fine 0, 0) ∧
    (ran 0x0000000000 ones).map (·.muted) = some false := by decide

theorem test_set_search_mode_ones :
    codec (ran 0x0100000000 ones) = some (img 0xBF 0xFF 0xFF 0xFF 0xC0, fine 0, 0) := by decide

theorem test_set_pll_ones :
    codec (ran 0x0200000000 ones) = some (img 0xC0 0x00 0xFF 0xFF 0xC0, fine 0, 0) := by decide

theorem test_set_search_dir_ones :
    codec (ran 0x0300000000 ones) = some (img 0xFF 0xFF 0x7F 0xFF 0xC0, fine 0, 0) := by decide

theorem test_set_stop_level_ones :
    codec (ran 0x0400000001 ones) = some (img 0xFF 0xFF 0xBF 0xFF 0xC0, fine 0, 0) := by decide

theorem test_set_inj_side_ones :
    codec (ran 0x0500000000 ones) = some (img 0xFF 0xFF 0xEF 0xFF 0xC0, fine 0, 0) ∧
    (ran 0x0500000000 ones).map (·.side) = some .low := by decide

theorem test_set_forced_mono_ones :
    codec (ran 0x0600000000 ones) = some (img 0xFF 0xFF 0xF7 0xFF 0xC0, fine 0, 0) ∧
    (ran 0x0600000000 ones).map (·.forcedMono) = some false := by decide

theorem test_set_mute_right_ones :
    codec (ran 0x0700000000 ones) = some (img 0xFF 0xFF 0xFB 0xFF 0xC0, fine 0, 0) ∧
    (ran 0x0700000000 ones).map (·.mutedRight) = some false := by decide

theorem test_set_mute_left_ones :
    codec (ran 0x0800000000 ones) = some (img 0xFF 0xFF 0xFD 0xFF 0xC0, fine 0, 0) ∧
    (ran 0x0800000000 ones).map (·.mutedLeft) = some false := by decide

theorem test_set_aux1_ones :
    codec (ran 0x0900000000 ones) = some (img 0xFF 0xFF 0xFE 0xFF 0xC0, fine 0, 0) := by decide

theorem test_set_aux2_ones :
    codec (ran 0x0A00000000 ones) = some (img 0xFF 0xFF 0xFF 0x7F 0xC0, fine 0, 0) := by decide

theorem test_set_standby_ones :
    codec (ran 0x0B00000000 ones) = some (img 0xFF 0xFF 0xFF 0xBF 0xC0, fine 0, 0) ∧
    (ran 0x0B00000000 ones).map (·.standby) = some false := by decide

theorem test_set_band_ones :
    codec (ran 0x0C00000000 ones) = some (img 0xFF 0xFF 0xFF 0xDF 0xC0, fine 0, 0) := by decide

theorem test_set_xtal_ones :
    codec (ran 0x0D00000000 ones) = some (img 0xFF 0xFF 0xFF 0xEF 0xC0, fine 0, 0) := by decide

theorem test_set_soft_mute_ones :
    codec (ran 0x0E00000000 ones) = some (img 0xFF 0xFF 0xFF 0xF7 0xC0, fine 0, 0) ∧
    (ran 0x0E00000000 ones).map (·.softMuted) = some false := by decide

theorem test_set_hcc_ones :
    codec (ran 0x0F00000000 ones) = some (img 0xFF 0xFF 0xFF 0xFB 0xC0, fine 0, 0) ∧
    (ran 0x0F00000000 ones).map (·.highCutControl) = some false := by decide

theorem test_set_snc_ones :
    codec (ran 0x1000000000 ones) = some (img 0xFF 0xFF 0xFF 0xFD 0xC0, fine 0, 0) ∧
    (ran 0x1000000000 ones).map (·.stereoNoiseCancelling) = some false := by decide

theorem test_set_search_ind_ones :
    codec (ran 0x1100000000 ones) = some (img 0xFF 0xFF 0xFF 0xFE 0xC0, fine 0, 0) := by decide

theorem test_set_pll_ref_ones :
    codec (ran 0x1200000000 ones) = some (img 0xFF 0xFF 0xFF 0xFF 0x40, fine 0, 0) := by decide

theorem test_set_deemph_ones :
    codec (ran 0x1300000000 ones) = some (img 0xFF 0xFF 0xFF 0xFF 0x80, fine 0, 0) := by decide

theorem test_set_mute_zeros :
    codec (ran 0x0000000001 zeros) = some (img 0x80 0x00 0x20 0x00 0x00, fine 0, 0) ∧
    (ran 0x0000000001 zeros).map (·.muted) = some true := by decide

theorem test_set_search_mode_zeros :
    codec (ran 0x0100000001 zeros) = some (img 0x40 0x00 0x20 0x00 0x00, fine 0, 0) := by decide

theorem test_set_pll_zeros :
    codec (ran 0x0200003FFF zeros) = some (img 0x3F 0xFF 0x20 0x00 0x00, fine 0, 0) := by decide

theorem test_set_search_dir_zeros :
    codec (ran 0x0300000001 zeros) = some (img 0x00 0x00 0xA0 0x00 0x00, fine 0, 0) := by decide

theorem test_set_stop_level_zeros :
    codec (ran 0x0400000003 zeros) = some (img 0x00 0x00 0x60 0x00 0x00, fine 0, 0) := by decide

theorem test_set_inj_side_zeros :
    codec (ran 0x0500000001 zeros) = some (img 0x00 0x00 0x30 0x00 0x00, fine 0, 0) ∧
    (ran 0x0500000001 zeros).map (·.side) = some .high := by decide

theorem test_set_forced_mono_zeros :
    codec (ran 0x0600000001 zeros) = some (img 0x00 0x00 0x28 0x00 0x00, fine 0, 0) ∧
    (ran 0x0600000001 zeros).map (·.forcedMono) = some true := by decide

theorem test_set_mute_right_zeros :
    codec (ran 0x0700000001 zeros) = some (img 0x00 0x00 0x24 0x00 0x00, fine 0, 0) ∧
    (ran 0x0700000001 zeros).map (·.mutedRight) = some true := by decide

theorem test_set_mute_left_zeros :
    codec (ran 0x0800000001 zeros) = some (img 0x00 0x00 0x22 0x00 0x00, fine 0, 0) ∧
    (ran 0x0800000001 zeros).map (·.mutedLeft) = some true := by decide

theorem test_set_aux1_zeros :
    codec (ran 0x0900000001 zeros) = some (img 0x00 0x00 0x21 0x00 0x00, fine 0, 0) := by decide

theorem test_set_aux2_zeros :
    codec (ran 0x0A00000001 zeros) = some (img 0x00 0x00 0x20 0x80 0x00, fine 0, 0) := by decide

theorem test_set_standby_zeros :
    codec (ran 0x0B00000001 zeros) = some (img 0x00 0x00 0x20 0x40 0x00, fine 0, 0) ∧
    (ran 0x0B00000001 zeros).map (·.standby) = some true := by decide

theorem test_set_band_zeros :
    codec (ran 0x0C00000001 zeros) = some (img 0x00 0x00 0x20 0x20 0x00, fine 0, 0) := by decide

theorem test_set_xtal_zeros :
    codec (ran 0x0D00000001 zeros) = some (img 0x00 0x00 0x20 0x10 0x00, fine 0, 0) := by decide

theorem test_set_soft_mute_zeros :
    codec (ran 0x0E00000001 zeros) = some (img 0x00 0x00 0x20 0x08 0x00, fine 0, 0) ∧
    (ran 0x0E00000001 zeros).map (·.softMuted) = some true := by decide

theorem test_set_hcc_zeros :
    codec (ran 0x0F00000001 zeros) = some (img 0x00 0x00 0x20 0x04 0x00, fine 0, 0) ∧
    (ran 0x0F00000001 zeros).map (·.highCutControl) = some true := by decide

theorem test_set_snc_zeros :
    codec (ran 0x1000000001 zeros) = some (img 0x00 0x00 0x20 0x02 0x00, fine 0, 0) ∧
    (ran 0x1000000001 zeros).map (·.stereoNoiseCancelling) = some true := by decide

theorem test_set_search_ind_zeros :
    codec (ran 0x1100000001 zeros) = some (img 0x00 0x00 0x20 0x01 0x00, fine 0, 0) := by decide

theorem test_set_pll_ref_zeros :
    codec (ran 0x1200000001 zeros) = some (img 0x00 0x00 0x20 0x00 0x80, fine 0, 0) := by decide

theorem test_set_deemph_zeros :
    codec (ran 0x1300000001 zeros) = some (img 0x00 0x00 0x20 0x00 0x40, fine 0, 0) := by decide

/-! ## Getters: 95_test_vectors.md 2.2 -/

def mixed : State :=
  { machine (img 0xEA 0x05 0xD6 0x5B 0x80) (img 0xE9 0xCF 0x80 0x73 0x00) with
    freqNom := -3816, fault := 0b00101 }

theorem test_get_mute :
    codec (ran 0x2000000000 mixed) = some (mixed.tx, fine 0x00000001, 0) := by decide

theorem test_get_search_mode :
    codec (ran 0x2100000000 mixed) = some (mixed.tx, fine 0x00000001, 0) := by decide

theorem test_get_pll :
    codec (ran 0x2200000000 mixed) = some (mixed.tx, fine 0x00002A05, 0) := by decide

theorem test_get_search_dir :
    codec (ran 0x2300000000 mixed) = some (mixed.tx, fine 0x00000001, 0) := by decide

theorem test_get_stop_level :
    codec (ran 0x2400000000 mixed) = some (mixed.tx, fine 0x00000002, 0) := by decide

theorem test_get_inj_side :
    codec (ran 0x2500000000 mixed) = some (mixed.tx, fine 0x00000001, 0) := by decide

theorem test_get_forced_mono :
    codec (ran 0x2600000000 mixed) = some (mixed.tx, fine 0x00000000, 0) := by decide

theorem test_get_mute_right :
    codec (ran 0x2700000000 mixed) = some (mixed.tx, fine 0x00000001, 0) := by decide

theorem test_get_mute_left :
    codec (ran 0x2800000000 mixed) = some (mixed.tx, fine 0x00000001, 0) := by decide

theorem test_get_aux1 :
    codec (ran 0x2900000000 mixed) = some (mixed.tx, fine 0x00000000, 0) := by decide

theorem test_get_aux2 :
    codec (ran 0x2A00000000 mixed) = some (mixed.tx, fine 0x00000000, 0) := by decide

theorem test_get_standby :
    codec (ran 0x2B00000000 mixed) = some (mixed.tx, fine 0x00000001, 0) := by decide

theorem test_get_band :
    codec (ran 0x2C00000000 mixed) = some (mixed.tx, fine 0x00000000, 0) := by decide

theorem test_get_xtal :
    codec (ran 0x2D00000000 mixed) = some (mixed.tx, fine 0x00000001, 0) := by decide

theorem test_get_soft_mute :
    codec (ran 0x2E00000000 mixed) = some (mixed.tx, fine 0x00000001, 0) := by decide

theorem test_get_hcc :
    codec (ran 0x2F00000000 mixed) = some (mixed.tx, fine 0x00000000, 0) := by decide

theorem test_get_snc :
    codec (ran 0x3000000000 mixed) = some (mixed.tx, fine 0x00000001, 0) := by decide

theorem test_get_search_ind :
    codec (ran 0x3100000000 mixed) = some (mixed.tx, fine 0x00000001, 0) := by decide

theorem test_get_pll_ref :
    codec (ran 0x3200000000 mixed) = some (mixed.tx, fine 0x00000001, 0) := by decide

theorem test_get_deemph :
    codec (ran 0x3300000000 mixed) = some (mixed.tx, fine 0x00000000, 0) := by decide

theorem test_getrx_ready :
    codec (ran 0x4000000000 mixed) = some (mixed.tx, fine 0x00000001, 0) := by decide

theorem test_getrx_band_limit :
    codec (ran 0x4100000000 mixed) = some (mixed.tx, fine 0x00000001, 0) := by decide

theorem test_getrx_level :
    codec (ran 0x4200000000 mixed) = some (mixed.tx, fine 0x00000007, 0) := by decide

theorem test_getrx_pll :
    codec (ran 0x4300000000 mixed) = some (mixed.tx, fine 0x000029CF, 0) := by decide

theorem test_getst_muted :
    codec (ran 0x4800000000 mixed) = some (mixed.tx, fine 0x00000001, 0) := by decide

theorem test_getst_muted_left :
    codec (ran 0x4900000000 mixed) = some (mixed.tx, fine 0x00000001, 0) := by decide

theorem test_getst_muted_right :
    codec (ran 0x4A00000000 mixed) = some (mixed.tx, fine 0x00000001, 0) := by decide

theorem test_getst_soft_muted :
    codec (ran 0x4B00000000 mixed) = some (mixed.tx, fine 0x00000001, 0) := by decide

theorem test_getst_hcc :
    codec (ran 0x4C00000000 mixed) = some (mixed.tx, fine 0x00000000, 0) := by decide

theorem test_getst_snc :
    codec (ran 0x4D00000000 mixed) = some (mixed.tx, fine 0x00000001, 0) := by decide

theorem test_getst_standby :
    codec (ran 0x4E00000000 mixed) = some (mixed.tx, fine 0x00000001, 0) := by decide

theorem test_getst_forced_mono :
    codec (ran 0x4F00000000 mixed) = some (mixed.tx, fine 0x00000000, 0) := by decide

theorem test_getst_side :
    codec (ran 0x5000000000 mixed) = some (mixed.tx, fine 0x00000001, 0) := by decide

theorem test_getst_freq :
    codec (ran 0x5100000000 mixed) = some (mixed.tx, fine 0xFFFFF118, 0) := by decide

theorem test_getst_fault :
    codec (ran 0x5200000000 mixed) = some (mixed.tx, fine 0x00000005, 0) := by decide

/-- A getter with a non-zero arg is refused and the bit stays for later reads (41_codec_getters.md R195). -/
theorem test_getter_refused :
    codec (ran 0x5200000001 mixed) = some (mixed.tx, some { res := 0b10000, val := 0 }, 0) ∧
    (ran 0x5200000001 mixed).map (·.fault) = some 0b10101 := by decide

/-! ## Converter: the examples of 42_codec_frequency.md R201, R203, R204 -/

theorem test_encode_freq_high :
    codec (ran 0x60153D3F60 (machine (img 0x00 0x00 0x30 0x10 0x00) (img 0 0 0 0 0))) =
      some (img 0x2A 0x05 0x30 0x10 0x00, fine 10757, 0) := by decide

/-- A negative numerator wraps, and `mute` and `search_mode` survive (R201 (c), R203). -/
theorem test_encode_freq_wraps :
    codec (ran 0x6000000000 (machine (img 0xC0 0x00 0x30 0x10 0x00) (img 0 0 0 0 0))) =
      some (img 0xFF 0xE5 0x30 0x10 0x00, fine 0x3FE5, 0) := by decide

theorem test_decode_freq_high : codec (ran 0x6110002A05 zeros) = some (zeros.tx, fine 0x053D3118, 0) := by
  decide

theorem test_decode_freq_negative : codec (ran 0x6110000000 zeros) = some (zeros.tx, fine 0xFFFC9118, 0) := by
  decide

/-! ## Bus session: 95_test_vectors.md 2.4, from the tuned state -/

def tunedTx : Image := img 0x2A 0x05 0x30 0x10 0x00
def tunedState : State := { machine tunedTx (img 0x00 0x00 0x00 0x70 0x00) with freqNom := 87900000 }

theorem test_transmit_ok :
    traffic (ran 0x7000000000 (withBus tunedState [true] [] .inf)) = some (tunedTx, fine 0, W tunedTx) := by
  decide

theorem test_transmit_fails :
    traffic (ran 0x7000000000 (withBus tunedState [false] [] .inf)) =
      some (tunedTx, some { res := 0b00001, val := 0 }, [.write 0x60 tunedTx false, .delay 100]) := by decide

theorem test_receive_status_full :
    (ran 0x7100000000 (withBus tunedState [] [full (img 0xA9 0xCF 0x80 0x73 0x00)] .inf)).map
      (fun t => (t.rx, t.result, t.env.trace)) =
      some (img 0xA9 0xCF 0x80 0x73 0x00, fine 0, R (img 0xA9 0xCF 0x80 0x73 0x00)) := by decide

theorem test_receive_status_short :
    (ran 0x7100000000 (withBus tunedState [] [.four 0xA9 0xCF 0x80 0x73] .inf)).map
      (fun t => (t.rx, t.result, t.env.trace)) =
      some (img 0x00 0x00 0x00 0x70 0x00, some { res := 0b00010, val := 0 },
        [.read 0x60 5 (.four 0xA9 0xCF 0x80 0x73), .delay 100]) := by decide

/-! ## Tuning: 95_test_vectors.md 2.5, from reset -/

def oks : List Bool := [true, true, true, true, true, true, true]
def level (b : Byte) : Image := img 0x00 0x00 0x00 b 0x00
def probed (hi lo : Byte) (more : List BusData) (limit : PollLimit) : State :=
  withBus State.reset oks (full (level hi) :: full (level lo) :: more) limit

theorem test_load_frequency :
    (ran 0x8700000000 (machine (img 0x6A 0x05 0xB0 0x10 0x00) (img 0xAA 0x4F 0x80 0x90 0x00))).map
      (fun t => (t.tx, t.freqNom, t.result)) =
      some (img 0x6A 0x4F 0xB0 0x10 0x00, 88502552, fine 0) := by decide

theorem test_load_frequency_negative :
    (ran 0x8700000000 (machine tunedTx (img 0 0 0 0 0))).map (fun t => (t.tx, t.freqNom.toInt)) =
      some (img 0x00 0x00 0x30 0x10 0x00, -225000) := by decide

/-- 3 < 7 chooses HIGH; the low probe's word stays in TX (R242's example). -/
theorem test_determine_injection_side_high :
    traffic (ran 0x82053D3F60 (probed 0x30 0x70 [] .inf)) =
      some (img 0x29 0x98 0x30 0x10 0x00, fine 1,
        W (img 0x2A 0x3C 0x30 0x10 0x00) ++ R (level 0x30) ++ W (img 0x29 0x98 0x20 0x10 0x00) ++
        R (level 0x70)) := by decide

/-- Equal levels choose LOW, and the low nibble of RX[3] takes no part. -/
theorem test_determine_injection_side_equal :
    (ran 0x82053D3F60 (probed 0x4F 0x40 [] .inf)).map (fun t => (t.tx, t.side, t.levHi, t.levLo, t.result)) =
      some (img 0x29 0x98 0x20 0x10 0x00, .low, 4, 4, fine 0) := by decide

theorem test_select_frequency_muted :
    traffic (ran 0x80153D3F60 (probed 0x30 0x70 [] .inf)) =
      some (tunedTx, fine 0,
        W (img 0x80 0x00 0x30 0x10 0x00) ++ W (img 0xAA 0x3C 0x30 0x10 0x00) ++ R (level 0x30) ++
        W (img 0xA9 0x98 0x20 0x10 0x00) ++ R (level 0x70) ++ W (img 0xAA 0x05 0x30 0x10 0x00) ++
        W tunedTx) := by decide

theorem test_select_frequency_low :
    (ran 0x80053D3F60 (probed 0x70 0x30 [] .inf)).map (fun t => (t.tx, t.side, t.freqNom, t.env.trace.length)) =
      some (img 0x29 0xCF 0x20 0x10 0x00, .low, 87900000, 10) := by decide

theorem test_select_channel_300 :
    traffic (ran 0x810000012C (probed 0x70 0x30 [] .inf)) =
      some (img 0x33 0x58 0x20 0x10 0x00, fine 0,
        W (img 0x33 0xC6 0x30 0x10 0x00) ++ R (level 0x70) ++ W (img 0x33 0x21 0x20 0x10 0x00) ++
        R (level 0x30) ++ W (img 0x33 0x58 0x20 0x10 0x00)) := by decide

theorem test_select_channel_431_wraps :
    (ran 0x81100001AF (probed 0x30 0x70 [] .inf)).map (fun t => (t.tx, t.muted, t.freqNom)) =
      some (img 0x00 0x0D 0x30 0x10 0x00, false, 134100000) := by decide

/-! ## Searching: 95_test_vectors.md 2.6 -/

/-- Row 2: `ready` on the third poll. -/
theorem test_search_found :
    traffic (ran 0x8320000000 (withBus tunedState oks [full (img 0x2A 0x10 0x00 0x20 0x00),
        full (img 0x2A 0x30 0x00 0x40 0x00), full (img 0xAA 0x4F 0x80 0x90 0x00)] (.atMost 2))) =
      some (img 0x2A 0x4F 0xB0 0x10 0x00, fine 0,
        W (img 0x6A 0x05 0xB0 0x10 0x00) ++ R (img 0x2A 0x10 0x00 0x20 0x00) ++
        R (img 0x2A 0x30 0x00 0x40 0x00) ++ R (img 0xAA 0x4F 0x80 0x90 0x00) ++
        W (img 0x2A 0x4F 0xB0 0x10 0x00)) := by decide

/-- Row 8: time-out of a muted search after one poll, band limit set and ignored. -/
theorem test_search_times_out :
    traffic (ran 0x8310000000 (withBus tunedState oks [full (img 0x6A 0x05 0x00 0x20 0x00)] (.atMost 0))) =
      some (tunedTx, some { res := 0b00100, val := 0 },
        W (img 0xAA 0x05 0x30 0x10 0x00) ++ W (img 0xEA 0x05 0x30 0x10 0x00) ++
        R (img 0x6A 0x05 0x00 0x20 0x00) ++ W (img 0xAA 0x05 0x30 0x10 0x00) ++ W tunedTx) := by decide

/-- Row 1 of the SEARCH_FROM table: up, from 87.0 MHz, RESET_SUD = 1. -/
theorem test_search_from_up :
    traffic (ran 0x84052F83C0 (withBus (State.resetWith { resetParams with resetSud := true }) oks [full (level 0x30),
        full (level 0x70), full (img 0x29 0xB0 0x00 0x10 0x00), full (img 0xA9 0xF8 0x80 0xA0 0x00)]
        (.atMost 9))) =
      some (img 0x29 0xF8 0xB0 0x10 0x00, fine 0,
        W (img 0x29 0xCF 0xB0 0x10 0x00) ++ R (level 0x30) ++ W (img 0x29 0x2A 0xA0 0x10 0x00) ++
        R (level 0x70) ++ W (img 0x29 0x98 0xB0 0x10 0x00) ++ W (img 0x69 0xA4 0xB0 0x10 0x00) ++
        R (img 0x29 0xB0 0x00 0x10 0x00) ++ R (img 0xA9 0xF8 0x80 0xA0 0x00) ++
        W (img 0x29 0xF8 0xB0 0x10 0x00)) := by decide

/-- Row 2: down, since RESET_SUD = 0; the band limit is reached. -/
theorem test_search_from_down :
    (ran 0x84052F83C0 (probed 0x30 0x70 [full (img 0xE9 0x8C 0x00 0x10 0x00)] (.atMost 9))).map
      (fun t => (t.tx, t.freqNom, t.result)) =
      some (img 0x29 0x8C 0x30 0x10 0x00, 86905112, fine 1) := by decide

/-- 95_test_vectors.md P2, command 1: the muted search from the beginning. -/
theorem test_search_from_beginning :
    (ran 0x8510000000 (probed 0x30 0x70 [full (img 0x29 0xB0 0x00 0x10 0x00),
        full (img 0xA9 0xF8 0x80 0xA0 0x00)] (.atMost 9))).map
      (fun t => (t.tx, t.freqNom, t.muted, t.result, t.env.trace.length)) =
      some (img 0x29 0xF8 0xB0 0x10 0x00, 87789848, false, fine 0, 22) := by decide

/-- The example of 44_tuning_search.md R259. -/
theorem test_search_from_end :
    traffic (ran 0x8610000000 (probed 0x90 0x40 [full (img 0xF3 0x58 0x00 0x50 0x00)] (.atMost 9))) =
      some (img 0x33 0x58 0x20 0x10 0x00, fine 1,
        W (img 0x33 0xD2 0x30 0x10 0x00) ++ R (level 0x90) ++ W (img 0x33 0x2D 0x20 0x10 0x00) ++
        R (level 0x40) ++ W (img 0x33 0x64 0x20 0x10 0x00) ++ W (img 0xB3 0x58 0x20 0x10 0x00) ++
        W (img 0xF3 0x58 0x20 0x10 0x00) ++ R (img 0xF3 0x58 0x00 0x50 0x00) ++
        W (img 0xB3 0x58 0x20 0x10 0x00) ++ W (img 0x33 0x58 0x20 0x10 0x00)) := by decide

/-! ## Toggles: the examples of 45_toggles.md R281 to R288, from the tuned state -/

theorem test_toggle_mute :
    traffic (ran 0x9000000000 (withBus tunedState oks [] .inf)) = some (img 0xAA 0x05 0x30 0x10 0x00, fine 0, W (img 0xAA 0x05 0x30 0x10 0x00)) ∧
    (ran 0x9000000000 (withBus tunedState oks [] .inf)).map (·.muted) = some true := by decide

theorem test_toggle_mute_left :
    traffic (ran 0x9100000000 (withBus tunedState oks [] .inf)) = some (img 0x2A 0x05 0x32 0x10 0x00, fine 0, W (img 0x2A 0x05 0x32 0x10 0x00)) ∧
    (ran 0x9100000000 (withBus tunedState oks [] .inf)).map (·.mutedLeft) = some true := by decide

theorem test_toggle_mute_right :
    traffic (ran 0x9200000000 (withBus tunedState oks [] .inf)) = some (img 0x2A 0x05 0x34 0x10 0x00, fine 0, W (img 0x2A 0x05 0x34 0x10 0x00)) ∧
    (ran 0x9200000000 (withBus tunedState oks [] .inf)).map (·.mutedRight) = some true := by decide

theorem test_toggle_soft_mute :
    traffic (ran 0x9300000000 (withBus tunedState oks [] .inf)) = some (img 0x2A 0x05 0x30 0x18 0x00, fine 0, W (img 0x2A 0x05 0x30 0x18 0x00)) ∧
    (ran 0x9300000000 (withBus tunedState oks [] .inf)).map (·.softMuted) = some true := by decide

theorem test_toggle_standby :
    traffic (ran 0x9400000000 (withBus tunedState oks [] .inf)) = some (img 0x2A 0x05 0x30 0x50 0x00, fine 0, W (img 0x2A 0x05 0x30 0x50 0x00)) ∧
    (ran 0x9400000000 (withBus tunedState oks [] .inf)).map (·.standby) = some true := by decide

theorem test_toggle_forced_mono :
    traffic (ran 0x9500000000 (withBus tunedState oks [] .inf)) = some (img 0x2A 0x05 0x38 0x10 0x00, fine 0, W (img 0x2A 0x05 0x38 0x10 0x00)) ∧
    (ran 0x9500000000 (withBus tunedState oks [] .inf)).map (·.forcedMono) = some true := by decide

theorem test_toggle_hcc :
    traffic (ran 0x9600000000 (withBus tunedState oks [] .inf)) = some (img 0x2A 0x05 0x30 0x14 0x00, fine 0, W (img 0x2A 0x05 0x30 0x14 0x00)) ∧
    (ran 0x9600000000 (withBus tunedState oks [] .inf)).map (·.highCutControl) = some true := by decide

theorem test_toggle_snc :
    traffic (ran 0x9700000000 (withBus tunedState oks [] .inf)) = some (img 0x2A 0x05 0x30 0x12 0x00, fine 0, W (img 0x2A 0x05 0x30 0x12 0x00)) ∧
    (ran 0x9700000000 (withBus tunedState oks [] .inf)).map (·.stereoNoiseCancelling) = some true := by decide

/-- R282's corner: TOGGLE_MUTE_LEFT tests `mutedLeft`, not `mutedRight` (90_conflicts.md C1). -/
theorem test_toggle_mute_left_independent :
    traffic (ran 0x9100000000 (withBus (machine (img 0x00 0x00 0x34 0x10 0x00) (img 0 0 0 0 0)) oks [] .inf)) =
      some (img 0x00 0x00 0x36 0x10 0x00, fine 0, W (img 0x00 0x00 0x36 0x10 0x00)) := by decide

/-! ## The command port and the hardware reset (30_encoding.md R110, 70_reset_and_hazards.md R342, R355) -/

/-- A state in which the host does these things next, one a step. -/
def presenting (l : List HostInput) : State := (withBus tunedState oks [] .inf).withInputs l

/-- What a port test looks at after one step: TX, the phase, the result, the bus calls, the inputs left. -/
def after (s : State) : Option (Image × Phase × Option Result × Nat × List HostInput) :=
  match step s with
  | .next t => some (t.tx, t.phase, t.result, t.env.trace.length, t.env.inputs)
  | .fault _ => none
  | .refused _ => none

/-- A muted search of an unbounded machine that has polled once, further answers and inputs as given. -/
def polling (reads : List BusData) (l : List HostInput) : State :=
  match exec (.search .up true) (withBus tunedState oks (full (level 0x00) :: reads) .inf) with
  | .next t => t.withInputs l
  | .fault _ => tunedState
  | .refused _ => tunedState

/-- The reset images of the default build (R340): TX[2] is 0x30. -/
def resetTxImage : Image := img 0x00 0x00 0x30 0x10 0x00

/-- A command presented while the search polls is not accepted and has no effect: SET_MUTE 0 is gone, TX and
`result` are the search's. -/
theorem test_early_command_lost :
    after (polling [full (level 0x00)] [.command 0x0000000000]) =
      some (img 0xEA 0x05 0xB0 0x10 0x00, .sPoll, none, 8, []) := by decide

/-- The second poll shows `ready`: the word 0x2A4F is loaded, `search_mode` and `mute` cleared, `blf` = 1 returned. -/
theorem test_later_poll_finds :
    after (polling [full (img 0xEA 0x4F 0x80 0x90 0x00)] []) =
      some (img 0x2A 0x4F 0xB0 0x10 0x00, .idle, fine 1, 12, []) := by decide

/-- A reset after the last primitive call of TRANSMIT, but before it returns: no result. -/
theorem test_reset_before_return :
    after (presenting [.commandCut 0x7000000000 2]) = some (resetTxImage, .idle, none, 2, []) := by decide

/-- A reset inside a command that makes no primitive call: no result, and TX is the reset image. -/
theorem test_reset_in_codec_command :
    after (presenting [.commandCut 0x0000000001 0, .nothing]) = some (resetTxImage, .idle, none, 0, [.nothing]) :=
  by decide

/-- A reset is the way out of an unbounded search; the poll it falls into is cut after its read. -/
theorem test_reset_ends_search :
    after (polling [full (level 0x00)] [.reset 1]) = some (resetTxImage, .idle, none, 7, []) := by decide

/-- A block built with RESET_SUD = 1 and another RESET_RX resets to those (R345 (3)), and keeps its MAX_POLLS. -/
theorem test_reset_keeps_the_build :
    (match step { State.resetWith { resetSud := true, resetRx := img 1 2 3 4 5, maxPolls := some (.atMost 3) } with
        rx := img 0 0 0 0 0, muted := true, env := { Env.fresh with inputs := [.reset 0] } } with
      | .next t => (t.tx.b2, t.rx, t.muted, t.pollLimit)
      | .fault _ => (0, img 0 0 0 0 0, true, .inf)
      | .refused _ => (0, img 0 0 0 0 0, true, .inf)) = (0xB0, img 1 2 3 4 5, false, .atMost 3) := by decide

/-! ## Witnesses: for every obligation with hypotheses, a concrete state and operands that meet them -/

theorem test_witness_DecodeOfEncode :
    (Instr.setStopLevel 1).wf = true ∧ (Instr.setStopLevel 3).wf = true ∧ (Instr.setPll 0x3FFF).wf = true ∧
    (Instr.searchFrom 0xFFFFFFF true).wf = true ∧ (Instr.selectChannel 0 false).wf = true := by decide

theorem test_witness_EncodeOfDecode :
    decode 0x0200003FFF = .ok (.setPll 0x3FFF) ∧ decode 0x84_1FFFFFFF = .ok (.searchFrom 0xFFFFFFF true) := by
  decide

/-- Each of the three kinds of word, at the ends of the reserved ranges and of the operand fields. -/
theorem test_witness_IllegalWordsRefused :
    reservedOp (0x14 : Byte).toNat = true ∧ reservedOp (0xFF : Byte).toNat = true ∧
    (reservedOp (0x02 : Byte).toNat = false ∧ (0x4000 : Arg) &&& mustBeZero (0x02 : Byte).toNat ≠ 0) ∧
    (reservedOp (0x04 : Byte).toNat = false ∧ (0x04 : Byte) = 0x04 ∧ (0x4 : Arg).extractLsb' 0 2 = 0) ∧
    (reservedOp (0x04 : Byte).toNat = false ∧
      ¬((1 : Arg) &&& mustBeZero (0x04 : Byte).toNat ≠ 0 ∨
        ((0x04 : Byte) = 0x04 ∧ (1 : Arg).extractLsb' 0 2 = 0))) ∧
    (reservedOp (0x97 : Byte).toNat = false ∧
      ¬((0 : Arg) &&& mustBeZero (0x97 : Byte).toNat ≠ 0 ∨
        ((0x97 : Byte) = 0x04 ∧ (0 : Arg).extractLsb' 0 2 = 0))) := by decide

theorem test_witness_StepRunsDecoded :
    (presenting [.command 0x7000000000]).phase = .idle ∧
    (presenting [.command 0x7000000000]).env.inputs = .command 0x7000000000 :: [] ∧
    decode 0x7000000000 = .ok .transmit := by decide

theorem test_witness_RefusalDoesNothingElse :
    (presenting [.command 0x1400000000, .command 0x7000000000]).phase = .idle ∧
    (presenting [.command 0x1400000000, .command 0x7000000000]).env.inputs =
      .command 0x1400000000 :: .command 0x7000000000 :: [] ∧
    decode 0x1400000000 = .error .illegalCommand ∧ decode 0x7000000001 = .error .illegalOperand ∧
    step (presenting [.command 0x1400000000, .command 0x7000000000]) =
      .next ((presenting [.command 0x7000000000]).ended 0b01000 0) ∧
    decode 0x7000000000 = .ok .transmit ∧ reservedOp (0x14 : Byte).toNat = true := by
  refine ⟨by decide, by decide, by decide, by decide, rfl, by decide, by decide⟩

/-- The three ways a host asserts no reset, at an idle and at a polling block. -/
theorem test_witness_PortWaits :
    (State.reset.phase = .idle ∧ State.reset.env.inputs = []) ∧
    ((presenting [.nothing]).phase = .idle ∧ (presenting [.nothing]).env.inputs = .nothing :: []) ∧
    ((polling [] []).phase = .sPoll ∧ (polling [] []).HostLeavesAlone []) ∧
    (polling [] [.nothing, .reset 0]).HostLeavesAlone [.reset 0] ∧
    (polling [] [.command 0x7000000000]).HostLeavesAlone [] :=
  ⟨⟨rfl, rfl⟩, ⟨rfl, rfl⟩, ⟨rfl, .inl ⟨rfl, rfl⟩⟩, .inr (.inl rfl), .inr (.inr ⟨_, rfl⟩)⟩

/-- A reset of a block built otherwise than `State.reset`. -/
theorem test_witness_HardwareReset :
    (presenting [.reset 0]).phase = .idle ∧ (presenting [.reset 0]).env.inputs = .reset 0 :: [] ∧
    (presenting [.reset 0]).params ≠ resetParams := by decide

/-- A reset before the first call of TRANSMIT, after its last, and inside a getter; and of a polling search, by
each of the two inputs. -/
theorem test_witness_ResetMidCommand :
    ((presenting [.commandCut 0x7000000000 0]).phase = .idle ∧
      (presenting [.commandCut 0x7000000000 0]).env.inputs = .commandCut 0x7000000000 0 :: []) ∧
    (presenting [.commandCut 0x7000000000 2]).env.inputs = .commandCut 0x7000000000 2 :: [] ∧
    (presenting [.commandCut 0x2000000000 0]).env.inputs = .commandCut 0x2000000000 0 :: [] ∧
    ((polling [] [.reset 1]).phase = .sPoll ∧ (polling [] [.reset 1]).HostResets 1 []) ∧
    (polling [] [.commandCut 0x7000000000 0]).HostResets 0 [] :=
  ⟨⟨rfl, rfl⟩, rfl, rfl, ⟨rfl, .inl rfl⟩, .inr ⟨_, rfl⟩⟩

/-- Both clauses of EncodedAs for every must-be-zero mask of the statements that use it. -/
theorem test_witness_EncodedAs :
    [(0xFFFFFFFE : Arg), 0xFFFFC000, 0xFFFFFFFF, 0xE0000000, 0xEFFFC000, 0xF0000000, 0xEFFFFC00, 0xCFFFFFFF,
      0xEFFFFFFF].all (fun m => m &&& m != 0 && ~~~m &&& m == 0) = true := by decide

theorem test_witness_SetStopLevel :
    ((4 : Arg) &&& 0xFFFFFFFC ≠ 0 ∧ (0 : Arg).extractLsb' 0 2 = 0) ∧
    ((3 : Arg) &&& 0xFFFFFFFC = 0 ∧ (3 : Arg).extractLsb' 0 2 ≠ 0) ∧
    ((1 : Arg) &&& 0xFFFFFFFC = 0 ∧ (1 : Arg).extractLsb' 0 2 ≠ 0) ∧ (1 : BitVec 2) ≠ 0 := by decide

theorem test_witness_SettersShared :
    (0x00 : Byte).toNat < 0x14 ∧ (0x13 : Byte).toNat < 0x14 ∧
    (2 : Arg) &&& mustBeZero (0x13 : Byte).toNat ≠ 0 ∧ (0 : Arg).extractLsb' 0 2 = 0 ∧
    ((1 : Arg) &&& mustBeZero (0x04 : Byte).toNat = 0 ∧ (1 : Arg).extractLsb' 0 2 ≠ 0) ∧
    ((0x3FFF : Arg) &&& mustBeZero (0x02 : Byte).toNat = 0 ∧ (0x02 : Byte).toNat ≠ 0x04) ∧
    (0x00 : Byte).toNat = mirrorSetter .muted ∧
    (0x13 : Byte).toNat ≠ mirrorSetter .muted ∧ (0x13 : Byte) ≠ 0x05 ∧ State.reset.MirrorsAgree ∧
    State.reset.SideAgrees := by decide

theorem test_witness_EncoderFunction : ((87327000 : Int) + 225000) % 8192 = 4096 := by decide

theorem test_witness_ConverterLaws : (-675000 : Int) ≤ 269114551 := by decide

theorem test_witness_ConverterBounds :
    ((0 : FreqArg).toNat : Int) - 450000 ≤ -450000 ∧ (-450000 : Int) ≤ (0 : FreqArg).toNat + 450000 ∧
    ((0xFFFFFFF : FreqArg).toNat : Int) - 450000 ≤ 268885455 ∧
    (268885455 : Int) ≤ (0xFFFFFFF : FreqArg).toNat + 450000 := by decide

theorem test_witness_FreqNomStaysBounded :
    State.reset.FreqBounded ∧ step State.reset = .next State.reset ∧
    ({ State.reset with freqNom := -225000 } : State).FreqBounded ∧
    ({ State.reset with freqNom := 268535455 } : State).FreqBounded := by
  refine ⟨by decide, rfl, by decide, by decide⟩

/-- The ends of the band and of the in-range frequencies of both sides. -/
theorem test_witness_RoundTrip :
    ((87000000 : Int) ≤ 87000000 ∧ (87000000 : Int) ≤ 108000000) ∧
    ((87000000 : Int) - 450000 ≤ 86550000 ∧ (86550000 : Int) ≤ 87000000 + 450000) ∧
    (0 ≤ encUnwrapped (-229096) .high ∧ encUnwrapped (-229096) .high ≤ 16383) ∧
    (0 ≤ encUnwrapped 133988631 .high ∧ encUnwrapped 133988631 .high ≤ 16383) ∧
    (0 ≤ encUnwrapped 220904 .low ∧ encUnwrapped 220904 .low ≤ 16383) ∧
    (0 ≤ encUnwrapped 134438631 .low ∧ encUnwrapped 134438631 .low ≤ 16383) := by decide

theorem test_witness_TrafficSettled : ∃ t : State, exec .transmit tunedState = .next t := ⟨_, rfl⟩

/-- A search that returns within its step, one that still polls, and the reserved and legal ends of the ops
that search. -/
theorem test_witness_BusCallsPerCommand :
    (∃ t : State, exec (.search .down true)
        (withBus tunedState oks [full (img 0x6A 0x05 0x00 0x20 0x00)] (.atMost 0)) = .next t ∧
      t.phase = .idle ∧
      (withBus tunedState oks [full (img 0x6A 0x05 0x00 0x20 0x00)] (.atMost 0)).pollLimit = .atMost 0) ∧
    (0x83 ≤ (Instr.search .down true).opcode.toNat ∧ (Instr.searchFromEnd true).opcode.toNat ≤ 0x86) ∧
    ((polling [] []).phase = .sPoll ∧ (polling [] []).pollLimit = .inf) ∧
    decode 0x7000000001 = .error .illegalOperand := by
  refine ⟨⟨_, rfl, ?_, ?_⟩, ?_, ?_, ?_⟩ <;> decide

/-- The second read of the probe is empty, or one byte short. -/
theorem test_witness_StaleLevelChoosesLow :
    readFault ((withBus State.reset oks [full (level 0x30), .none] .inf).readAnswerAt 3 1) ≠ 0 ∧
    readFault ((withBus State.reset oks [.none, .four 0 0 0 0xF0] .inf).readAnswerAt 3 1) ≠ 0 := by decide

/-- `ready` on poll 1 of 1, on poll 2 of 2, and on poll 1 with MAX_POLLS = INF. -/
theorem test_witness_SearchFinds :
    (let s := withBus tunedState oks [full (img 0xAA 0x4F 0x80 0x90 0x00)] (.atMost 0)
     s.pollLimit = .atMost 0 ∧ (∀ j, j < 0 → (rxAfterAll s.rx (s.pollAnswers true (j + 1))).b0.getLsbD 7 = false) ∧
     (rxAfterAll s.rx (s.pollAnswers true (0 + 1))).b0.getLsbD 7 = true) ∧
    (let s := withBus tunedState oks [.none, full (img 0xEA 0x4F 0x80 0x90 0x00)] (.atMost 1)
     s.pollLimit = .atMost 1 ∧
     (∀ j, j < 1 → (rxAfterAll s.rx (s.pollAnswers false (j + 1))).b0.getLsbD 7 = false) ∧
     (rxAfterAll s.rx (s.pollAnswers false (1 + 1))).b0.getLsbD 7 = true) ∧
    (let s := withBus tunedState oks [full (img 0xAA 0x4F 0x80 0x90 0x00)] .inf
     s.pollLimit = .inf ∧ (rxAfterAll s.rx (s.pollAnswers true (0 + 1))).b0.getLsbD 7 = true) := by decide

/-- The next poll shows `ready` by a full read, or by a stale bit under a short one; the host does nothing, or
presents a command. -/
theorem test_witness_SearchPollFinds :
    ((polling [full (img 0xEA 0x4F 0x80 0x90 0x00)] []).phase = .sPoll ∧
      (polling [full (img 0xEA 0x4F 0x80 0x90 0x00)] []).HostLeavesAlone [] ∧
      (rxAfter (polling [full (img 0xEA 0x4F 0x80 0x90 0x00)] []).rx
        ((polling [full (img 0xEA 0x4F 0x80 0x90 0x00)] []).readAnswerAt 0 0)).b0.getLsbD 7 = true) ∧
    (let s : State := { polling [.none] [.command 0x7000000000] with rx := img 0xAA 0x4F 0x80 0x90 0x00 }
     s.phase = .sPoll ∧ s.HostLeavesAlone [] ∧ (rxAfter s.rx (s.readAnswerAt 0 0)).b0.getLsbD 7 = true) :=
  ⟨⟨rfl, .inl ⟨rfl, rfl⟩, by decide⟩, rfl, .inr (.inr ⟨_, rfl⟩), by decide⟩

/-- MAX_POLLS = 1 and MAX_POLLS = 2, no answer `ready`. -/
theorem test_witness_SearchTimesOut :
    (let s := withBus tunedState oks [full (img 0x6A 0x05 0x00 0x20 0x00)] (.atMost 0)
     s.pollLimit = .atMost 0 ∧
     ∀ j, j ≤ 0 → (rxAfterAll s.rx (s.pollAnswers true (j + 1))).b0.getLsbD 7 = false) ∧
    (let s := withBus tunedState oks [.none, .one 0xFF] (.atMost 1)
     s.pollLimit = .atMost 1 ∧
     ∀ j, j ≤ 1 → (rxAfterAll s.rx (s.pollAnswers false (j + 1))).b0.getLsbD 7 = false) := by decide

theorem test_witness_SearchReturns :
    (withBus tunedState [] [] (.atMost 0)).pollLimit = .atMost 0 ∧
    (withBus tunedState [] [] (.atMost 9)).pollLimit = .atMost 9 := by decide

theorem test_witness_SearchUnbounded :
    (let s := withBus tunedState oks [full (level 0x00)] .inf
     s.pollLimit = .inf ∧ (rxAfter s.rx (s.readAnswerAt (searchLead true) 0)).b0.getLsbD 7 = false ∧
     (rxAfter s.rx (s.readAnswerAt (searchLead false) 0)).b0.getLsbD 7 = false) ∧
    (let s := polling [full (level 0x00)] [.command 0x7000000000]
     s.phase = .sPoll ∧ s.pollLimit = .inf ∧ s.HostLeavesAlone [] ∧
      (rxAfter s.rx (s.readAnswerAt 0 0)).b0.getLsbD 7 = false) ∧
    (let s := polling [.none] []
     s.HostLeavesAlone [] ∧ (rxAfter s.rx (s.readAnswerAt 0 0)).b0.getLsbD 7 = false) :=
  ⟨by decide, ⟨rfl, rfl, .inr (.inr ⟨_, rfl⟩), by decide⟩, .inl ⟨rfl, rfl⟩, by decide⟩

theorem test_witness_StaleReadyEndsSearch :
    (let s := withBus (machine tunedTx (img 0xAA 0x4F 0x80 0x90 0x00)) oks [.none] .inf
     s.rx.b0.getLsbD 7 = true ∧ readFault (s.readAnswerAt (searchLead false) 0) ≠ 0 ∧
     readFault (s.readAnswerAt (searchLead true) 0) ≠ 0) := by decide

theorem test_witness_TogglePairsRestore :
    Instr.toggleMuteLeft ∈ [Instr.toggleMute, .toggleMuteLeft, .toggleMuteRight, .toggleSoftMute,
      .toggleStandby, .toggleForcedMono, .toggleHcc, .toggleSnc] ∧
    State.reset.MirrorsAgree ∧ ones.MirrorsAgree := by decide

theorem test_witness_FaultGathersRes : ∃ t r, runWord 0x7000000001 tunedState = .next t ∧ t.result = some r :=
  ⟨_, _, rfl, rfl⟩

theorem test_witness_FaultTable :
    reservedOp (0x14 : Byte).toNat = true ∧ reservedOp (0x13 : Byte).toNat = false ∧
    reservedOp (0x97 : Byte).toNat = false ∧ (withBus tunedState [] [] .inf).pollLimit = .inf := by decide

/-- A step without a reset, and a non-zero FAULT cleared by each of the two inputs that reset. -/
theorem test_witness_FaultClearedByResetOnly :
    step State.reset = .next State.reset ∧
    (let s : State := { presenting [.reset 0] with fault := 0b00101 }
     s.HostResets 0 [] ∧ ∃ t, step s = .next t ∧ t.fault = 0 ∧ s.fault &&& t.fault ≠ s.fault) ∧
    (let s : State := { presenting [.commandCut 0x7000000000 1] with fault := 0b00001 }
     s.HostResets 1 [] ∧ ∃ t, step s = .next t ∧ t.fault = 0 ∧ s.fault &&& t.fault ≠ s.fault) :=
  ⟨rfl, ⟨.inl rfl, _, rfl, by decide, by decide⟩, .inr ⟨_, rfl⟩, _, rfl, by decide, by decide⟩

theorem test_witness_ParametersFixed :
    ∃ t, step (presenting [.command 0x7000000000]) = .next t ∧ t.params ≠ resetParams :=
  ⟨_, rfl, by decide⟩

theorem test_witness_StepKeepsInv :
    State.reset.Inv ∧ step State.reset = .next State.reset ∧ (polling [] []).Inv ∧ mixed.ImageLegal ∧
    (tunedState.Inv ∧ ∃ t, step (tunedState.withInputs [.command 0x2200000000]) = .next t) := by
  refine ⟨by decide, rfl, by decide, by decide, by decide, _, rfl⟩

/-- A reached state in which a result stands, and a reached state that is not idle. -/
theorem test_witness_ReachableStates :
    (∃ s : State, Reachable s ∧ s.result.isSome = true) ∧ (∃ s : State, Reachable s ∧ s.phase ≠ .idle) := by
  have h := Reachable.reset resetParams { Env.fresh with inputs := [.command 0x2200000000] }
  have h' := Reachable.reset { resetParams with maxPolls := some .inf }
    { Env.fresh with inputs := [.command 0x8300000000], writeAnswers := [true], readAnswers := [.none] }
  exact ⟨⟨_, .step _ _ h rfl, rfl⟩, _, .step _ _ h' rfl, by decide⟩

theorem test_witness_NeverStops : Reachable State.reset := .reset resetParams Env.fresh

/-- One command on each side of each of the boundaries of the four clauses. -/
theorem test_witness_StateOwners :
    (∃ t : State, exec .receiveStatus tunedState = .next t ∧ Instr.receiveStatus.opcode.toNat < 0x80) ∧
    (∃ t : State, exec .toggleMute tunedState = .next t ∧ 0x90 ≤ Instr.toggleMute.opcode.toNat) ∧
    (∃ t : State, exec (.determineInjectionSide 0) tunedState = .next t ∧
      (Instr.determineInjectionSide 0).opcode.toNat = 0x82) ∧
    (∃ t : State, exec (.search .up true) tunedState = .next t ∧ (Instr.search .up true).opcode.toNat = 0x83) ∧
    (∃ t : State, exec .loadFrequency tunedState = .next t ∧ Instr.loadFrequency.opcode.toNat = 0x87 ∧
      Instr.loadFrequency.opcode.toNat ≠ 0x71) ∧
    (∃ t : State, exec (.decodeFreq 0 .low) tunedState = .next t ∧
      (Instr.decodeFreq 0 .low).opcode.toNat < 0x70 ∧ (Instr.decodeFreq 0 .low).opcode.toNat ≠ 0x05) := by
  refine ⟨⟨_, rfl, ?_⟩, ⟨_, rfl, ?_⟩, ⟨_, rfl, ?_⟩, ⟨_, rfl, ?_⟩, ⟨_, rfl, ?_, ?_⟩, ⟨_, rfl, ?_, ?_⟩⟩ <;> decide

end Sys2Proof.Tests
end

/-! ## The open parameters of the build (00_scope.md R6, 70_reset_and_hazards.md R345 (3))

Every operation keeps the field `params`: first the shared operations, then the procedures of the tuning
engine, then every command, and last every step. -/

namespace Sys2Proof.Machine

@[simp] theorem State.writeMirror_params (s : State) (m : Mirror) (v : Bool) :
    (s.writeMirror m v).params = s.params := by cases m <;> rfl

@[simp] theorem State.toggle_params (s : State) (m : Mirror) : (s.toggle m).params = s.params := by
  simp [State.toggle]

@[simp] theorem State.refuse_params (s : State) (e : DecodeError) : (s.refuse e).params = s.params := by
  simp [State.refuse]

@[simp] theorem State.muteOn_params (s : State) : s.muteOn.params = s.params := by simp [State.muteOn]

@[simp] theorem State.muteOff_params (s : State) : s.muteOff.params = s.params := by simp [State.muteOff]

/-! ### Selecting a frequency (44_tuning_search.md R242 to R244) -/

@[simp] theorem State.muteOnIf_params (s : State) (m : Bool) : (s.muteOnIf m).params = s.params := by
  cases m <;> simp [State.muteOnIf]

@[simp] theorem State.muteOffIf_params (s : State) (m : Bool) : (s.muteOffIf m).params = s.params := by
  cases m <;> simp [State.muteOffIf]

@[simp] theorem State.probe_params (s : State) (f : Int) (x : Side) : (s.probe f x).params = s.params := by
  simp [State.probe]

@[simp] theorem State.determineSide_params (s : State) (f : Int) :
    (s.determineSide f).params = s.params := by
  simp [State.determineSide, State.probeCompare, State.probeLow, State.probeHigh]

@[simp] theorem State.selectFrequency_params (s : State) (f : Int) (m : Bool) :
    (s.selectFrequency f m).params = s.params := by simp [State.selectFrequency]

/-! ### Searching (44_tuning_search.md R250, R251, R256) -/

@[simp] theorem State.searchStart_params (s : State) (d : Direction) (m : Bool) :
    (s.searchStart d m).params = s.params := by cases m <;> simp [State.searchStart]

@[simp] theorem State.searchClose_params (s : State) : s.searchClose.params = s.params := by
  cases h : s.muteDuringSearch <;> simp [State.searchClose, h]

@[simp] theorem State.searchLatch_params (s : State) : s.searchLatch.params = s.params := by
  simp [State.searchLatch]

@[simp] theorem State.searchAbort_params (s : State) : s.searchAbort.params = s.params := by
  simp [State.searchAbort]

@[simp] theorem State.pollOnce_params (s : State) : s.pollOnce.params = s.params := by
  simp [State.pollOnce]

@[simp] theorem State.pollLoop_params (n : Nat) (s : State) : (State.pollLoop n s).params = s.params := by
  induction n generalizing s with
  | zero => rfl
  | succ n ih =>
    obtain ⟨-, found⟩ | ⟨-, -, gaveUp⟩ | ⟨-, -, pollsOn⟩ := State.pollLoop_succ_cases n s
    · simp [found]
    · simp [gaveUp]
    · simp [pollsOn, ih]

@[simp] theorem State.searchPolls_params (s : State) : s.searchPolls.params = s.params :=
  State.pollLoop_params _ s

@[simp] theorem State.searchProc_params (s : State) (d : Direction) (m : Bool) :
    (s.searchProc d m).params = s.params := by simp [State.searchProc]

@[simp] theorem State.searchFromProc_params (s : State) (f : Int) (m : Bool) :
    (s.searchFromProc f m).params = s.params := by simp [State.searchFromProc]

/-! ### Every command, every word, every step -/

/-- A meaning that answers the next state `u` keeps the parameters when `u` has them. -/
theorem params_of_next {s t u : State}
    (h : (.next u : Host.Outcome State Fault Refusal) = .next t) (hu : u.params = s.params) :
    t.params = s.params := by
  injection h with h
  rw [← h, hu]

/-- The one command whose meaning itself can refuse its operand (40_codec_setters.md R135). -/
theorem execSetStopLevel_params {l : BitVec 2} {s t : State} (h : execSetStopLevel l s = .next t) :
    t.params = s.params := by
  rw [execSetStopLevel] at h
  split at h
  case isTrue => exact params_of_next h rfl
  case isFalse => exact params_of_next h (State.refuse_params s _)

/-- No command changes the open parameters of the build (00_scope.md R6). -/
theorem exec_params {i : Instr} {s t : State} (h : exec i s = .next t) : t.params = s.params := by
  cases i with
  | setStopLevel l => exact execSetStopLevel_params h
  | setMute | setForcedMono | setMuteRight | setMuteLeft | setStandby | setSoftMute | setHcc | setSnc =>
    exact params_of_next h (State.writeMirror_params s.accept _ _)
  | setSearchMode | setPll | setSearchDir | setInjSide | setAux1 | setAux2 | setBand | setXtal
  | setSearchInd | setPllRef | setDeemph =>
    exact params_of_next h rfl
  | getMute | getSearchMode | getPll | getSearchDir | getStopLevel | getInjSide | getForcedMono
  | getMuteRight | getMuteLeft | getAux1 | getAux2 | getStandby | getBand | getXtal | getSoftMute | getHcc
  | getSnc | getSearchInd | getPllRef | getDeemph | getrxReady | getrxBandLimit | getrxLevel | getrxPll
  | getstMuted | getstMutedLeft | getstMutedRight | getstSoftMuted | getstHcc | getstSnc | getstStandby
  | getstForcedMono | getstSide | getstFreq | getstFault =>
    exact params_of_next h (State.accept_params s)
  | encodeFreq | decodeFreq | loadFrequency => exact params_of_next h rfl
  | transmit => exact params_of_next h (State.transmit_params s.accept)
  | receiveStatus => exact params_of_next h (State.receiveStatus_params s.accept)
  | determineInjectionSide => exact params_of_next h (State.determineSide_params s.accept _)
  | selectFrequency | selectChannel => exact params_of_next h (State.selectFrequency_params s.accept _ _)
  | search => exact params_of_next h (State.searchProc_params s.accept _ _)
  | searchFrom => exact params_of_next h (State.searchFromProc_params s.accept _ _)
  | searchFromBeginning | searchFromEnd =>
    exact params_of_next h (State.searchFromProc_params (s.accept.writeTxBit _ _) _ _)
  | toggleMute | toggleMuteLeft | toggleMuteRight | toggleSoftMute | toggleStandby | toggleForcedMono
  | toggleHcc | toggleSnc =>
    exact params_of_next h (State.toggle_params s.accept _)

/-- A command word changes no open parameter, run or refused. -/
theorem runWord_params {w : CmdWord} {s t : State} (h : runWord w s = .next t) : t.params = s.params := by
  rw [runWord] at h
  split at h
  case h_1 => exact exec_params h
  case h_2 => exact params_of_next h (State.refuse_params s _)

/-- A reset in the middle of something rebuilds the reset state from the block's own parameters
(70_reset_and_hazards.md R342, R345 (3)). -/
@[simp] theorem resetDuring_params (before after : State) (calls : Nat) :
    (resetDuring before after calls).params = before.params := rfl

/-- No step changes the open parameters of the build, whatever the host presents. -/
theorem step_params {s t : State} (h : step s = .next t) : t.params = s.params := by
  obtain ⟨rest, ⟨-, -, waits⟩ | ⟨w, -, -, runs⟩ | ⟨n, -, -, isReset⟩ | ⟨w, n, u, -, -, -, isCut⟩ |
    ⟨-, -, pollsOn⟩ | ⟨n, -, -, searchReset⟩⟩ := step_cases h
  · simp [waits]
  · simpa using runWord_params runs
  · simp [isReset]
  · simp [isCut]
  · simp [pollsOn]
  · simp [searchReset]

/-- Settles O55: `step_params`, and MAX_POLLS is one of the parameters. -/
theorem parametersFixed : Obligations.ParametersFixed := by
  intro s t h
  have hp := step_params h
  exact ⟨hp, by rw [State.pollLimit, State.pollLimit, hp]⟩

end Sys2Proof.Machine

/-! ## The bits of an image (10_state.md R20, R26, R30, R31; 30_encoding.md R91)

What the writes of TX do to it bit by bit. The invariants of 10_state.md R49 read some bits only, the watched
ones; a field that holds none of them is plain. -/

namespace Sys2Proof.Machine

theorem and_mask_congr {a b mask : Byte} (h : ∀ j, mask.getLsbD j = true → a.getLsbD j = b.getLsbD j) :
    a &&& mask = b &&& mask := by
  refine BitVec.eq_of_getLsbD_eq fun j _ => ?_
  cases hm : mask.getLsbD j <;> simp [hm, h]

/-- Bit `j` of byte `i` of an image. -/
def imageBit (im : Image) (i : Fin 5) (j : Nat) : Bool := (im.get i).getLsbD j

theorem image_get_set (im : Image) (k i : Fin 5) (v : Byte) : (im.set k v).get i = if i = k then v else im.get i := by
  fin_cases k <;> fin_cases i <;> rfl

/-- The generic field write, bit by bit: the bits under the field's mask take the shifted value. -/
theorem imageBit_writeField (fld : FieldSpec) (v : Byte) (im : Image) (i : Fin 5) (j : Nat) :
    imageBit (writeField fld v im) i j =
      if i = fld.byte ∧ fld.mask.getLsbD j = true then (v <<< fld.shift).getLsbD j else imageBit im i j := by
  simp only [imageBit, writeField, image_get_set]
  by_cases hi : i = fld.byte
  · subst hi
    cases hm : fld.mask.getLsbD j
    · simpa [hm] using BitVec.lt_of_getLsbD
    · simp [hm]
  · simp [hi]

/-- The generic field write shows the shifted value under the field's mask. -/
theorem writeField_and_mask (fld : FieldSpec) (v : Byte) (im : Image) :
    (writeField fld v im).get fld.byte &&& fld.mask = v <<< fld.shift &&& fld.mask := by
  rw [writeField, image_get_set, if_pos rfl, BitVec.and_or_distrib_right]
  simp [BitVec.and_assoc]

/-- A field of exactly one bit. -/
abbrev FieldSpec.OneBit (fld : FieldSpec) : Prop := fld.shift < 8 ∧ fld.mask = BitVec.twoPow 8 fld.shift

/-- The write of a one-bit field changes that bit only. -/
theorem imageBit_writeBit {fld : FieldSpec} (h : fld.OneBit) (v : Bool) (im : Image) (i : Fin 5) (j : Nat) :
    imageBit (writeBit fld v im) i j = if i = fld.byte ∧ j = fld.shift then v else imageBit im i j := by
  obtain ⟨hshift, hmask⟩ := h
  have hbit : fld.mask.getLsbD j = true ↔ j = fld.shift := by
    rw [hmask, BitVec.getLsbD_twoPow]
    simp
    omega
  simp only [writeBit, imageBit_writeField, hbit]
  split
  next h =>
    obtain ⟨-, rfl⟩ := h
    cases v <;> simp [Byte.ofBit, hshift]
  next => rfl

/-- The write of a one-bit field leaves alone what a mask without that bit shows. -/
theorem writeBit_and_mask {fld : FieldSpec} (h : fld.OneBit) (v : Bool) (im : Image) {i : Fin 5} {mask : Byte}
    (hm : i = fld.byte → mask.getLsbD fld.shift = false) :
    (writeBit fld v im).get i &&& mask = im.get i &&& mask := by
  refine and_mask_congr fun j hj => ?_
  refine (imageBit_writeBit h v im i j).trans (if_neg ?_)
  rintro ⟨hi, rfl⟩
  rw [hm hi] at hj
  cases hj

/-- The bits of TX the invariants read: those with a mirror, the injection side, the stop level and the unused
bits. -/
def watchedBits : Image := { b0 := 0x80, b1 := 0, b2 := 0x7E, b3 := 0x4E, b4 := 0x3F }

/-- `im'` has the watched bits of `im`. -/
def SameWatched (im im' : Image) : Prop :=
  ∀ i j, imageBit watchedBits i j = true → imageBit im' i j = imageBit im i j

/-- The one-bit fields of TX that no invariant reads. -/
def plainFields : List FieldSpec :=
  [searchModeField, searchDirField, aux1Field, aux2Field, bandField, xtalField, searchIndField, pllRefField,
    deemphField]

theorem oneBit_of_plain {fld : FieldSpec} (h : fld ∈ plainFields) : fld.OneBit := by
  revert fld; decide

theorem writeBit_sameWatched {fld : FieldSpec} (h : fld ∈ plainFields) (v : Bool) (im : Image) :
    SameWatched im (writeBit fld v im) := by
  have hplain : ∀ fld ∈ plainFields, imageBit watchedBits fld.byte fld.shift = false := by decide
  intro i j hw
  rw [imageBit_writeBit (oneBit_of_plain h), if_neg]
  rintro ⟨rfl, rfl⟩
  rw [hplain fld h] at hw
  cases hw

/-- A write of the PLL word's fourteen bits touches no watched bit (30_encoding.md R103). -/
theorem pllBytes_sameWatched (im : Image) (high low : Byte) (h : high.getLsbD 7 = false) :
    SameWatched im { im with b0 := (im.b0 &&& 0xC0) ||| high, b1 := low } := by
  intro i j hw
  match i, hw with
  | 0, hw =>
    have hj : j = 7 := by
      have h8 : j < 8 := BitVec.lt_of_getLsbD hw
      revert hw
      interval_cases j <;> decide
    subst hj
    show ((im.b0 &&& 0xC0) ||| high).getLsbD 7 = im.b0.getLsbD 7
    rw [BitVec.getLsbD_or, h]
    simp
  | 1, hw => simp [imageBit, Image.get, watchedBits] at hw
  | 2, _ | 3, _ | 4, _ => rfl

theorem putPllWord_sameWatched (w : PllWord) (im : Image) : SameWatched im (putPllWord w im) :=
  pllBytes_sameWatched im _ _ (by simp)

theorem copyPllWord_sameWatched (rx im : Image) : SameWatched im (copyPllWord rx im) :=
  pllBytes_sameWatched im _ _ (by simp)

/-! ### The invariants of TX, bit by bit -/

/-- The bit a boolean mirrors is one bit of TX (10_state.md R29). -/
theorem Mirror.field_oneBit (m : Mirror) : m.field.OneBit := by cases m <;> decide

/-- The mirror invariant, for all eight booleans at once (10_state.md R30). -/
theorem State.mirrorsAgree_iff (s : State) :
    s.MirrorsAgree ↔ ∀ m : Mirror, s.mirror m = imageBit s.tx m.field.byte m.field.shift := by
  constructor
  · rintro ⟨hm, hl, hr, hs, hh, hn, hb, hf⟩ m
    cases m <;> assumption
  · intro h
    exact ⟨h .muted, h .mutedLeft, h .mutedRight, h .softMuted, h .highCutControl,
      h .stereoNoiseCancelling, h .standby, h .forcedMono⟩

theorem State.mirror_writeMirror (s : State) (m m' : Mirror) (v : Bool) :
    (s.writeMirror m v).mirror m' = if m' = m then v else s.mirror m' := by
  cases m <;> cases m' <;> rfl

/-- No two booleans mirror one bit. -/
theorem Mirror.field_injective {m m' : Mirror}
    (h : m'.field.byte = m.field.byte ∧ m'.field.shift = m.field.shift) : m' = m := by
  revert h
  cases m <;> cases m' <;> decide

theorem State.mirrorsAgree_of_bits {s t : State} (hmirror : ∀ m, t.mirror m = s.mirror m)
    (hbits : ∀ m : Mirror, imageBit t.tx m.field.byte m.field.shift = imageBit s.tx m.field.byte m.field.shift)
    (h : s.MirrorsAgree) : t.MirrorsAgree := by
  rw [State.mirrorsAgree_iff] at h ⊢
  intro m
  rw [hmirror, hbits, h]

/-! ## What running does to the block (10_state.md R49; 60_exceptions.md R312) -/

/-- What the part of a command between acceptance and return can make of a state: the unused bits stay, the
stop level stays legal, the mirrors stay in step, and faults are only added, to `res` and FAULT alike. The
injection side and its bit stay, or, if `probes` is true, may be written together. -/
structure Advances (probes : Bool) (s t : State) : Prop where
  unused : t.tx.b4 &&& 0x3F = s.tx.b4 &&& 0x3F
  stopLevel : s.tx.b2 &&& 0x60 ≠ 0 → t.tx.b2 &&& 0x60 ≠ 0
  mirrors : s.MirrorsAgree → t.MirrorsAgree
  side : (t.side = s.side ∧ imageBit t.tx 2 4 = imageBit s.tx 2 4) ∨ (probes = true ∧ t.SideAgrees)
  faults : ∃ bits, t.res = s.res ||| bits ∧ t.fault = s.fault ||| bits

theorem Advances.trans {p : Bool} {s t u : State} (h : Advances p s t) (h' : Advances p t u) :
    Advances p s u where
  unused := h'.unused.trans h.unused
  stopLevel := h'.stopLevel ∘ h.stopLevel
  mirrors := h'.mirrors ∘ h.mirrors
  side := by
    obtain ⟨hside', hbit'⟩ | written' := h'.side
    · obtain ⟨hside, hbit⟩ | ⟨hp, agrees⟩ := h.side
      · exact .inl ⟨hside'.trans hside, hbit'.trans hbit⟩
      · exact .inr ⟨hp, (congrArg Side.bit hside').trans (agrees.trans hbit'.symm)⟩
    · exact .inr written'
  faults := by
    obtain ⟨bits, hres, hfault⟩ := h.faults
    obtain ⟨bits', hres', hfault'⟩ := h'.faults
    exact ⟨bits ||| bits', by rw [hres', hres, BitVec.or_assoc], by rw [hfault', hfault, BitVec.or_assoc]⟩

/-- A state with the watched bits, the booleans and the side of another, and with some faults added. -/
theorem Advances.of_watched {p : Bool} {s t : State} (hw : SameWatched s.tx t.tx)
    (hmirror : ∀ m, t.mirror m = s.mirror m) (hside : t.side = s.side)
    (hfaults : ∃ bits, t.res = s.res ||| bits ∧ t.fault = s.fault ||| bits) : Advances p s t where
  unused := and_mask_congr fun j hj => hw 4 j hj
  stopLevel := by
    have : t.tx.b2 &&& 0x60 = s.tx.b2 &&& 0x60 := by
      refine and_mask_congr fun j hj => hw 2 j ?_
      have h8 : j < 8 := BitVec.lt_of_getLsbD hj
      revert hj
      interval_cases j <;> decide
    rw [this]
    exact id
  mirrors := State.mirrorsAgree_of_bits hmirror fun m => hw _ _ (by cases m <;> decide)
  side := .inl ⟨hside, hw 2 4 (by decide)⟩
  faults := hfaults

/-- No fault added. -/
theorem noFaults (s : State) : ∃ bits, s.res = s.res ||| bits ∧ s.fault = s.fault ||| bits :=
  ⟨0, by simp, by simp⟩

theorem Advances.refl (p : Bool) (s : State) : Advances p s s :=
  .of_watched (fun _ _ _ => rfl) (fun _ => rfl) rfl (noFaults s)

/-- A command that may not write the side does no more than one that may. -/
theorem Advances.weaken {p : Bool} {s t : State} (h : Advances p s t) : Advances true s t :=
  { h with side := h.side.imp id fun ⟨_, agrees⟩ => ⟨rfl, agrees⟩ }

section
variable {p : Bool} {s t : State}

/-! ### The shared operations -/

theorem Advances.inPhase {q : Phase} (h : Advances p s t) : Advances p s (t.inPhase q) :=
  ⟨h.unused, h.stopLevel, h.mirrors, h.side, h.faults⟩

theorem Advances.returned {val : Val} (h : Advances p s t) : Advances p s (t.returned val) :=
  ⟨h.unused, h.stopLevel, h.mirrors, h.side, h.faults⟩

theorem Advances.raise {flag : FaultFlag} (h : Advances p s t) : Advances p s (t.raise flag) :=
  h.trans (.of_watched (fun _ _ _ => rfl) (fun m => by cases m <;> rfl) rfl ⟨flag.mask, rfl, rfl⟩)

/-- The primitive calls made and the faults they raise (20_memory.md R67), RX replaced or not. -/
theorem Advances.after {rx : Image} {calls : List BusEvent} {bits : FaultBits} (h : Advances p s t) :
    Advances p s (({ t with rx := rx } : State).after calls bits) :=
  h.trans (.of_watched (fun _ _ _ => rfl) (fun m => by cases m <;> rfl) rfl ⟨bits, rfl, rfl⟩)

theorem Advances.transmit (h : Advances p s t) : Advances p s t.transmit := by
  rw [State.transmit_after]
  exact h.after (rx := t.rx)

theorem Advances.receiveStatus (h : Advances p s t) : Advances p s t.receiveStatus := by
  rw [State.receiveStatus_after]
  exact h.after

theorem Advances.putPll {w : PllWord} (h : Advances p s t) : Advances p s (t.putPll w) :=
  h.trans (.of_watched (putPllWord_sameWatched w _) (fun m => by cases m <;> rfl) rfl (noFaults t))

theorem Advances.tuneWord {f : Int} (h : Advances p s t) : Advances p s (t.tuneWord f) :=
  h.trans (.of_watched (putPllWord_sameWatched _ _) (fun m => by cases m <;> rfl) rfl (noFaults t))

theorem Advances.loadFrequency (h : Advances p s t) : Advances p s t.loadFrequency :=
  h.trans (.of_watched (copyPllWord_sameWatched _ _) (fun m => by cases m <;> rfl) rfl (noFaults t))

theorem Advances.writePlain {fld : FieldSpec} {v : Bool} (h : Advances p s t)
    (hf : fld ∈ plainFields := by decide) : Advances p s (t.writeTxBit fld v) :=
  h.trans (.of_watched (writeBit_sameWatched hf v _) (fun m => by cases m <;> rfl) rfl (noFaults t))

/-- The stop level, never the reserved code (10_state.md R49 (b); 40_codec_setters.md R135). -/
theorem Advances.writeStopLevel {l : BitVec 2} (h : Advances p s t) (hl : stopLevelLegal l = true) :
    Advances p s (t.writeTx stopLevelField (l.setWidth 8)) :=
  h.trans
    { unused := rfl
      stopLevel := fun _ => (writeField_and_mask stopLevelField (l.setWidth 8) t.tx).trans_ne (by
        revert l
        decide)
      mirrors := State.mirrorsAgree_of_bits (fun m => by cases m <;> rfl) fun m => by
        rw [State.writeTx_tx, imageBit_writeField, if_neg (by cases m <;> decide)]
      side := .inl ⟨rfl, by rw [State.writeTx_tx, imageBit_writeField, if_neg (by decide)]⟩
      faults := noFaults t }

/-- Injection side and bit together (10_state.md R31). -/
theorem Advances.setSide {x : Side} (h : Advances true s t) : Advances true s (t.setSide x) :=
  have hone : injSideField.OneBit := by decide
  h.trans
    { unused := rfl
      stopLevel := by
        have hb : (t.setSide x).tx.b2 &&& 0x60 = t.tx.b2 &&& 0x60 :=
          writeBit_and_mask hone _ _ (i := 2) fun _ => rfl
        rw [hb]
        exact id
      mirrors := State.mirrorsAgree_of_bits (fun m => by cases m <;> rfl) fun m => by
        rw [State.setSide_tx, imageBit_writeBit hone, if_neg (by cases m <;> decide)]
      side := .inr ⟨rfl, (imageBit_writeBit hone x.bit t.tx 2 4).symm⟩
      faults := noFaults t }

/-- A boolean and its bit together (10_state.md R30). -/
theorem Advances.writeMirror {m : Mirror} {v : Bool} (h : Advances p s t) :
    Advances p s (t.writeMirror m v) :=
  h.trans
    { unused := by cases m <;> rfl
      stopLevel := by
        have hb : (t.writeMirror m v).tx.b2 &&& 0x60 = t.tx.b2 &&& 0x60 := by
          rw [State.writeMirror_tx]
          exact writeBit_and_mask m.field_oneBit v _ (i := 2) (by cases m <;> decide)
        rw [hb]
        exact id
      mirrors := by
        rw [State.mirrorsAgree_iff, State.mirrorsAgree_iff]
        intro agree m'
        rw [State.mirror_writeMirror, State.writeMirror_tx, imageBit_writeBit m.field_oneBit, agree]
        by_cases hm : m' = m
        · simp [hm]
        · rw [if_neg hm, if_neg fun hf => hm (Mirror.field_injective hf)]
      side := .inl ⟨by cases m <;> rfl, by
        rw [State.writeMirror_tx, imageBit_writeBit m.field_oneBit, if_neg (by cases m <;> decide)]⟩
      faults := by cases m <;> exact noFaults t }

/-! ### The toggles and selecting a frequency (45_toggles.md R280; 44_tuning_search.md R242 to R244) -/

theorem Advances.toggle {m : Mirror} (h : Advances p s t) : Advances p s (t.toggle m) := h.writeMirror.transmit

theorem Advances.muteOn (h : Advances p s t) : Advances p s t.muteOn := h.writeMirror.transmit

theorem Advances.muteOff (h : Advances p s t) : Advances p s t.muteOff := h.writeMirror.transmit

theorem Advances.muteOnIf {m : Bool} (h : Advances p s t) : Advances p s (t.muteOnIf m) := by
  cases m
  case false => exact h
  case true => exact h.muteOn

theorem Advances.muteOffIf {m : Bool} (h : Advances p s t) : Advances p s (t.muteOffIf m) := by
  cases m
  case false => exact h
  case true => exact h.muteOff

theorem Advances.probe {f : Int} {x : Side} (h : Advances true s t) : Advances true s (t.probe f x) :=
  h.setSide.putPll.transmit.receiveStatus

/-- The comparator's latches are none of the fields the relation reads (10_state.md R34). -/
theorem Advances.withLatches {hi lo : Level} (h : Advances p s t) :
    Advances p s { t with levHi := hi, levLo := lo } :=
  ⟨h.unused, h.stopLevel, h.mirrors, h.side, h.faults⟩

theorem Advances.determineSide {f : Int} (h : Advances true s t) : Advances true s (t.determineSide f) :=
  have high : Advances true s (t.probeHigh f) := h.inPhase.probe.withLatches
  have low : Advances true s ((t.probeHigh f).probeLow f) := high.inPhase.probe.withLatches
  low.inPhase.setSide.inPhase

theorem Advances.selectFrequency {f : Int} {m : Bool} (h : Advances true s t) :
    Advances true s (t.selectFrequency f m) :=
  h.muteOnIf.determineSide.tuneWord.transmit.muteOffIf

/-! ### Searching (44_tuning_search.md R250, R251, R256) -/

/-- The search's own registers are none of the fields the relation reads (10_state.md R35, R36). -/
theorem Advances.withSearch {blf m : Bool} {polls : Nat} {q : Phase} (h : Advances p s t) :
    Advances p s { t with blf := blf, polls := polls, muteDuringSearch := m, phase := q } :=
  ⟨h.unused, h.stopLevel, h.mirrors, h.side, h.faults⟩

theorem Advances.searchStart {d : Direction} {m : Bool} (h : Advances p s t) :
    Advances p s (t.searchStart d m) := by
  cases m
  case false => exact (h.inPhase.writePlain.writePlain.transmit).withSearch
  case true => exact (h.inPhase.muteOn.inPhase.writePlain.writePlain.transmit).withSearch

theorem Advances.searchClose (h : Advances p s t) : Advances p s t.searchClose := by
  have closed : Advances p s (t.writeTxBit searchModeField false).transmit := h.writePlain.transmit
  rw [State.searchClose]
  split
  next => exact closed.inPhase.muteOff.returned
  next => exact closed.returned

theorem Advances.searchLatch (h : Advances p s t) : Advances p s t.searchLatch :=
  h.inPhase.withSearch.loadFrequency.searchClose

theorem Advances.searchAbort (h : Advances p s t) : Advances p s t.searchAbort :=
  h.inPhase.raise.withSearch.searchClose

theorem Advances.pollOnce (h : Advances p s t) : Advances p s t.pollOnce := h.receiveStatus.withSearch

theorem Advances.pollLoop {n : Nat} (h : Advances p s t) : Advances p s (State.pollLoop n t) := by
  induction n generalizing t with
  | zero => exact h
  | succ n ih =>
    obtain ⟨-, found⟩ | ⟨-, -, gaveUp⟩ | ⟨-, -, pollsOn⟩ := State.pollLoop_succ_cases n t
    · rw [found]; exact h.pollOnce.searchLatch
    · rw [gaveUp]; exact h.pollOnce.searchAbort
    · rw [pollsOn]; exact ih h.pollOnce

theorem Advances.searchPolls (h : Advances p s t) : Advances p s t.searchPolls := h.pollLoop

theorem Advances.searchProc {d : Direction} {m : Bool} (h : Advances p s t) :
    Advances p s (t.searchProc d m) := h.searchStart.searchPolls

theorem Advances.searchFromProc {f : Int} {m : Bool} (h : Advances true s t) :
    Advances true s (t.searchFromProc f m) := h.selectFrequency.tuneWord.searchProc

end

/-! ## Where a step leaves the block: a command has returned, or a search polls (10_state.md R45, R49 (e)) -/

/-- A command has returned: the block is idle and the result carries `res` (30_encoding.md R113). -/
def State.HasReturned (s : State) : Prop := s.phase = .idle ∧ ∃ val, s.result = some { res := s.res, val := val }

/-- A search polls: no result stands, and TX asks the chip to search, muted as the search was asked
(44_tuning_search.md R251). -/
structure State.Polling (s : State) : Prop where
  phase : s.phase = .sPoll
  result : s.result = none
  asked : s.tx.b0.getLsbD 6 = true
  muted : s.muteDuringSearch = true → s.muted = true

/-- The block rests: its command has returned, or is a search without a limit that polls on. -/
def State.AtRest (s : State) : Prop := s.HasReturned ∨ (s.Polling ∧ s.pollLimit = .inf)

theorem State.returned_hasReturned (s : State) (val : Val) : (s.returned val).HasReturned := ⟨rfl, val, rfl⟩

theorem State.refuse_hasReturned (s : State) (e : DecodeError) : (s.refuse e).HasReturned :=
  State.returned_hasReturned _ 0

theorem State.searchClose_hasReturned (s : State) : s.searchClose.HasReturned :=
  ⟨s.searchClose_phase, _, s.searchClose_result⟩

theorem State.Polling.pollOnce {s : State} (h : s.Polling) : s.pollOnce.Polling where
  phase := by simpa [State.pollOnce] using h.phase
  result := by simpa [State.pollOnce] using h.result
  asked := by simpa [State.pollOnce] using h.asked
  muted := by simpa [State.pollOnce] using h.muted

/-- A search opens with its request in TX, and muted if it was asked to (44_tuning_search.md R250). -/
theorem State.searchStart_polling (s : State) (d : Direction) (m : Bool) (hresult : s.result = none) :
    (s.searchStart d m).Polling where
  phase := rfl
  result := by cases m <;> simpa [State.searchStart, State.muteOn, State.writeMirror] using hresult
  asked := by
    have hmode (im : Image) : (writeBit searchModeField true im).b0.getLsbD 6 = true :=
      imageBit_writeBit (by decide) true im 0 6
    cases m <;> simp only [State.searchStart, State.transmit_tx, State.writeTxBit_tx] <;> exact hmode _
  muted := by
    rintro (rfl : m = true)
    simp [State.searchStart, State.muteOn, State.writeMirror]

/-- The poll loop comes to rest. With a finite MAX_POLLS it is given as many polls as the count still lacks, so
it ends by `ready` or by the limit. -/
theorem State.Polling.pollLoop_atRest {n : Nat} {s : State} (h : s.Polling)
    (hn : ∀ e, s.pollLimit = .atMost e → s.polls ≤ e ∧ s.polls + n = e + 1) : (State.pollLoop n s).AtRest := by
  induction n generalizing s with
  | zero =>
    cases hlim : s.pollLimit with
    | inf => exact .inr ⟨h, hlim⟩
    | atMost e => have := hn e hlim; omega
  | succ n ih =>
    obtain ⟨-, found⟩ | ⟨-, -, gaveUp⟩ | ⟨-, below, pollsOn⟩ := State.pollLoop_succ_cases n s
    · rw [found]; exact .inl (State.searchClose_hasReturned _)
    · rw [gaveUp]; exact .inl (State.searchClose_hasReturned _)
    · rw [pollsOn]
      refine ih h.pollOnce fun e he => ?_
      have hpolls : s.pollOnce.polls = s.polls + 1 := by simp [State.pollOnce_eq]
      have hlimit : s.pollLimit = .atMost e := by simpa [State.pollLimit] using he
      have hne : s.polls ≠ e := by simpa [he, hpolls, limitReached] using below
      have := hn e hlimit
      omega

theorem State.Polling.searchPolls_atRest {s : State} (h : s.Polling) (hlim : s.pollLimit = .inf ∨ s.polls = 0) :
    s.searchPolls.AtRest := by
  refine h.pollLoop_atRest fun e he => ?_
  obtain hinf | hzero := hlim
  · rw [he] at hinf; cases hinf
  · simp [he, hzero, pollsPerStep]

theorem State.searchProc_atRest {s : State} (d : Direction) (m : Bool) (hresult : s.result = none) :
    (s.searchProc d m).AtRest :=
  (State.searchStart_polling s d m hresult).searchPolls_atRest (.inr rfl)

/-! ### What keeps the result (10_state.md R45: none stands while a command runs) -/

@[simp] theorem State.writeMirror_result (s : State) (m : Mirror) (v : Bool) :
    (s.writeMirror m v).result = s.result := by cases m <;> rfl

@[simp] theorem State.probe_result (s : State) (f : Int) (x : Side) : (s.probe f x).result = s.result := by
  simp [State.probe]

@[simp] theorem State.determineSide_result (s : State) (f : Int) : (s.determineSide f).result = s.result := by
  simp [State.determineSide, State.probeCompare, State.probeLow, State.probeHigh]

@[simp] theorem State.selectFrequency_result (s : State) (f : Int) (m : Bool) :
    (s.selectFrequency f m).result = s.result := by
  cases m <;> simp [State.selectFrequency, State.muteOnIf, State.muteOffIf, State.muteOn, State.muteOff]

theorem State.searchFromProc_atRest {s : State} (f : Int) (m : Bool) (hresult : s.result = none) :
    (s.searchFromProc f m).AtRest :=
  State.searchProc_atRest _ m (by simpa using hresult)

/-! ## What a command can be -/

/-- `CommandRun s op t`: a command of opcode `op`, accepted in `s`, leaves `t` (30_encoding.md R114). One
constructor for each kind of command. -/
inductive CommandRun (s : State) : Nat → State → Prop
  /-- A getter or DECODE_FREQ (41_codec_getters.md R160, 42_codec_frequency.md R204). -/
  | answer {op : Nat} (val : Val) (hop : 0x20 ≤ op ∧ op < 0x70) : CommandRun s op (s.accept.returned val)
  /-- The setter of a mirrored bit (40_codec_setters.md R130). -/
  | setMirror {op : Nat} (m : Mirror) (v : Bool) (hop : op < 0x20) :
    CommandRun s op ((s.accept.writeMirror m v).returned 0)
  /-- The setter of a bit without a mirror. -/
  | setPlain {op : Nat} (fld : FieldSpec) (v : Bool) (hf : fld ∈ plainFields) (hop : op < 0x20) :
    CommandRun s op ((s.accept.writeTxBit fld v).returned 0)
  /-- SET_STOP_LEVEL with a legal operand (40_codec_setters.md R135). -/
  | setStopLevel (l : BitVec 2) (hl : stopLevelLegal l = true) :
    CommandRun s 0x04 ((s.accept.writeTx stopLevelField (l.setWidth 8)).returned 0)
  /-- SET_STOP_LEVEL with the reserved code. -/
  | refuseStopLevel : CommandRun s 0x04 (s.refuse .illegalOperand)
  /-- SET_INJ_SIDE (40_codec_setters.md R136). -/
  | setSide (x : Side) : CommandRun s 0x05 ((s.accept.setSide x).returned 0)
  /-- SET_PLL or ENCODE_FREQ (40_codec_setters.md R133, 42_codec_frequency.md R203). -/
  | setWord {op : Nat} (w : PllWord) (val : Val) (hop : op = 0x02 ∨ op = 0x60) :
    CommandRun s op ((s.accept.putPll w).returned val)
  | transmit : CommandRun s 0x70 (s.accept.transmit.returned 0)
  | receiveStatus : CommandRun s 0x71 (s.accept.receiveStatus.returned 0)
  /-- SELECT_FREQUENCY or SELECT_CHANNEL (44_tuning_search.md R244, R246). -/
  | select {op : Nat} (f : Int) (m : Bool) (hop : op = 0x80 ∨ op = 0x81) :
    CommandRun s op ((s.accept.selectFrequency f m).returned 0)
  /-- DETERMINE_INJECTION_SIDE (44_tuning_search.md R242). -/
  | probe (f : Int) (val : Val) : CommandRun s 0x82 ((s.accept.determineSide f).returned val)
  | search (d : Direction) (m : Bool) : CommandRun s 0x83 (s.accept.searchProc d m)
  | searchFrom (f : Int) (m : Bool) : CommandRun s 0x84 (s.accept.searchFromProc f m)
  /-- SEARCH_FROM_BEGINNING or SEARCH_FROM_END (44_tuning_search.md R258, R259). -/
  | searchFromEdge {op : Nat} (up : Bool) (f : Int) (m : Bool) (hop : op = 0x85 ∨ op = 0x86) :
    CommandRun s op ((s.accept.writeTxBit searchDirField up).searchFromProc f m)
  | loadFrequency : CommandRun s 0x87 (s.accept.loadFrequency.returned 0)
  /-- The eight toggles (45_toggles.md R280). -/
  | toggle {op : Nat} (m : Mirror) (hop : 0x90 ≤ op) : CommandRun s op ((s.accept.toggle m).returned 0)

theorem CommandRun.of_next {s u t : State} {op : Nat}
    (h : (.next u : Host.Outcome State Fault Refusal) = .next t) (hu : CommandRun s op u) : CommandRun s op t := by
  injection h with h
  exact h ▸ hu

theorem execSetStopLevel_commandRun {l : BitVec 2} {s t : State} (h : execSetStopLevel l s = .next t) :
    CommandRun s 0x04 t := by
  rw [execSetStopLevel] at h
  split at h
  next hl => exact .of_next h (.setStopLevel l hl)
  next => exact .of_next h .refuseStopLevel

/-- Every command is of one of the kinds of `CommandRun`. -/
theorem exec_commandRun {i : Instr} {s t : State} (h : exec i s = .next t) : CommandRun s i.opcode.toNat t := by
  cases i with
  | setStopLevel => exact execSetStopLevel_commandRun h
  | setMute | setForcedMono | setMuteRight | setMuteLeft | setStandby | setSoftMute | setHcc | setSnc =>
    exact .of_next h (.setMirror _ _ (by simp [Instr.opcode]))
  | setSearchMode | setSearchDir | setAux1 | setAux2 | setBand | setXtal | setSearchInd | setPllRef
  | setDeemph =>
    exact .of_next h (.setPlain _ _ (by decide) (by simp [Instr.opcode]))
  | setInjSide => exact .of_next h (.setSide _)
  | setPll => exact .of_next h (.setWord _ _ (.inl rfl))
  | encodeFreq => exact .of_next h (.setWord _ _ (.inr rfl))
  | transmit => exact .of_next h .transmit
  | receiveStatus => exact .of_next h .receiveStatus
  | selectFrequency => exact .of_next h (.select _ _ (.inl rfl))
  | selectChannel => exact .of_next h (.select _ _ (.inr rfl))
  | determineInjectionSide => exact .of_next h (.probe _ _)
  | search => exact .of_next h (.search _ _)
  | searchFrom => exact .of_next h (.searchFrom _ _)
  | searchFromBeginning => exact .of_next h (.searchFromEdge _ _ _ (.inl rfl))
  | searchFromEnd => exact .of_next h (.searchFromEdge _ _ _ (.inr rfl))
  | loadFrequency => exact .of_next h .loadFrequency
  | toggleMute | toggleMuteLeft | toggleMuteRight | toggleSoftMute | toggleStandby | toggleForcedMono
  | toggleHcc | toggleSnc =>
    exact .of_next h (.toggle _ (by simp [Instr.opcode]))
  | _ => exact .of_next h (.answer _ (by simp [Instr.opcode]))

/-- The commands that may write the injection side: SET_INJ_SIDE and those that probe (10_state.md R31). -/
def writesSide (op : Nat) : Bool := op == 0x05 || (0x80 ≤ op && op ≤ 0x82) || (0x84 ≤ op && op ≤ 0x86)

theorem CommandRun.advances {s t : State} {op : Nat} (h : CommandRun s op t) :
    Advances (writesSide op) s.accept t := by
  have start (p : Bool) : Advances p s.accept s.accept := .refl p s.accept
  cases h with
  | answer => exact (start _).returned
  | setMirror => exact (start _).writeMirror.returned
  | setPlain _ _ hf => exact ((start _).writePlain hf).returned
  | setStopLevel _ hl => exact ((start _).writeStopLevel hl).returned
  | refuseStopLevel => exact (start _).raise.returned
  | setSide => exact (start true).setSide.returned
  | setWord => exact (start _).putPll.returned
  | transmit => exact (start _).transmit.returned
  | receiveStatus => exact (start _).receiveStatus.returned
  | select _ _ hop => obtain rfl | rfl := hop <;> exact (start true).selectFrequency.returned
  | probe => exact (start true).determineSide.returned
  | search => exact (start _).searchProc
  | searchFrom => exact (start true).searchFromProc
  | searchFromEdge _ _ _ hop => obtain rfl | rfl := hop <;> exact (start true).writePlain.searchFromProc
  | loadFrequency => exact (start _).loadFrequency.returned
  | toggle => exact (start _).toggle.returned

theorem CommandRun.atRest {s t : State} {op : Nat} (h : CommandRun s op t) : t.AtRest := by
  cases h with
  | search d m => exact State.searchProc_atRest d m rfl
  | searchFrom f m => exact State.searchFromProc_atRest f m rfl
  | searchFromEdge _ f m => exact State.searchFromProc_atRest f m rfl
  | _ => exact .inl (State.returned_hasReturned _ _)

theorem runWord_advances {w : CmdWord} {s t : State} (h : runWord w s = .next t) : Advances true s.accept t := by
  rw [runWord] at h
  split at h
  next => exact (exec_commandRun h).advances.weaken
  next =>
    injection h with h
    exact h ▸ (Advances.refl true s.accept).raise.returned

theorem runWord_atRest {w : CmdWord} {s t : State} (h : runWord w s = .next t) : t.AtRest := by
  rw [runWord] at h
  split at h
  next => exact (exec_commandRun h).atRest
  next =>
    injection h with h
    exact h ▸ .inl (State.refuse_hasReturned s _)

/-! ## The reachable-state invariant (10_state.md R49) -/

theorem or_and_or (a b c : FaultBits) : (a ||| c) &&& (b ||| c) = (a &&& b) ||| c := by
  ext i hi
  simp [Bool.or_and_distrib_right]

theorem and_or_absorb (a b : FaultBits) : a &&& (a ||| b) = a := by
  ext i hi
  simp +contextual

/-- The part of the invariant that holds in the middle of a command too. -/
structure State.Sound (s : State) : Prop where
  image : s.ImageLegal
  mirrors : s.MirrorsAgree
  side : s.SideAgrees
  recorded : s.fault &&& s.res = s.res

theorem State.Sound.advances {p : Bool} {s t : State} (h : s.Sound) (adv : Advances p s t) : t.Sound where
  image := by
    obtain ⟨unused, stopLevel⟩ := h.image
    exact ⟨adv.unused.trans unused, adv.stopLevel stopLevel⟩
  mirrors := adv.mirrors h.mirrors
  side := by
    obtain ⟨hside, hbit⟩ | ⟨-, written⟩ := adv.side
    · exact (congrArg Side.bit hside).trans (h.side.trans hbit.symm)
    · exact written
  recorded := by
    obtain ⟨bits, hres, hfault⟩ := adv.faults
    rw [hres, hfault, or_and_or, h.recorded]

/-- At rest, the invariant is its sound part. -/
theorem State.AtRest.inv {s : State} (hrest : s.AtRest) (h : s.Sound) : s.Inv := by
  have record (hres : (s.result.map Result.res).getD s.res = s.res) : s.FaultsRecorded := ⟨h.recorded, hres⟩
  obtain ⟨hidle, val, hresult⟩ | ⟨poll, hlim⟩ := hrest
  · refine ⟨h.image, h.mirrors, h.side, ⟨.inl hidle, fun _ => hidle⟩, record (by rw [hresult]; rfl), ?_⟩
    intro hp
    rw [hidle] at hp
    cases hp
  · refine ⟨h.image, h.mirrors, h.side, ⟨.inr ⟨poll.phase, hlim⟩, ?_⟩, record (by rw [poll.result]; rfl),
      fun _ => ⟨poll.asked, poll.muted⟩⟩
    rw [poll.result]
    nofun

theorem State.Inv.sound {s : State} (h : s.Inv) : s.Sound := by
  obtain ⟨image, mirrors, side, -, ⟨recorded, -⟩, -⟩ := h
  exact ⟨image, mirrors, side, recorded⟩

/-- Accepting a command leaves no fault bit in `res` (60_exceptions.md R314). -/
theorem State.Sound.accept {s : State} (h : s.Sound) : s.accept.Sound :=
  ⟨h.image, h.mirrors, h.side, by simp⟩

/-- The invariant says of a block in S_POLL that a search without a limit polls. -/
theorem State.Inv.polling {s : State} (h : s.Inv) (hp : s.phase = .sPoll) : s.Polling ∧ s.pollLimit = .inf := by
  obtain ⟨-, -, -, ⟨hphase, hresult⟩, -, hasked⟩ := h
  obtain ⟨asked, muted⟩ := hasked hp
  rw [hp] at hphase hresult
  refine ⟨⟨hp, ?_, asked, muted⟩, by simpa using hphase⟩
  cases hr : s.result with
  | none => rfl
  | some r => simp [hr] at hresult

/-- TX after reset, either value of the open bit: legal, no boolean's bit set, the side's bit set
(10_state.md R48). -/
theorem resetTx_legal (sud : Bool) : (resetTx sud).b4 &&& 0x3F = 0 ∧ (resetTx sud).b2 &&& 0x60 ≠ 0 := by
  cases sud <;> decide

theorem resetTx_mirrored (sud : Bool) (m : Mirror) :
    imageBit (resetTx sud) m.field.byte m.field.shift = false := by
  cases sud <;> cases m <;> rfl

theorem resetTx_side (sud : Bool) : (resetTx sud).b2.getLsbD 4 = true := by cases sud <;> rfl

/-- The reset state has the invariant, whatever the parameters and the environment (10_state.md R48). -/
theorem resetWith_inv (p : Params) (env : Env) : ({ State.resetWith p with env := env } : State).Inv := by
  refine ⟨resetTx_legal p.resetSud, ?_, (resetTx_side p.resetSud).symm, ⟨.inl rfl, fun _ => rfl⟩,
    ⟨BitVec.and_self, rfl⟩, nofun⟩
  rw [State.mirrorsAgree_iff]
  intro m
  rw [show State.mirror _ m = false by cases m <;> rfl]
  exact (resetTx_mirrored p.resetSud m).symm

theorem runWord_inv {w : CmdWord} {s t : State} (hs : s.Inv) (h : runWord w s = .next t) : t.Inv :=
  (runWord_atRest h).inv (hs.sound.accept.advances (runWord_advances h))

theorem searchPolls_inv {s : State} (hs : s.Inv) (hp : s.phase = .sPoll) : s.searchPolls.Inv := by
  obtain ⟨poll, hlim⟩ := hs.polling hp
  exact (poll.searchPolls_atRest (.inl hlim)).inv (hs.sound.advances (Advances.refl true s).searchPolls)

/-- Every step keeps the invariant: by the six things a step can be. -/
theorem step_inv {s t : State} (hs : s.Inv) (h : step s = .next t) : t.Inv := by
  obtain ⟨rest, ⟨-, -, waits⟩ | ⟨w, -, -, runs⟩ | ⟨n, -, -, isReset⟩ | ⟨w, n, u, -, -, -, isCut⟩ |
    ⟨hp, -, pollsOn⟩ | ⟨n, -, -, searchReset⟩⟩ := step_cases h
  · rw [waits]; exact hs
  · exact runWord_inv (s := s.withInputs rest) hs runs
  · rw [isReset]; exact resetWith_inv s.params _
  · rw [isCut]; exact resetWith_inv s.params _
  · rw [pollsOn]; exact searchPolls_inv hs hp
  · rw [searchReset]; exact resetWith_inv s.params _

/-- Settles O56: `step_inv`. -/
theorem stepKeepsInv : Obligations.StepKeepsInv := fun _ _ hs h => step_inv hs h

/-- Settles O54: `resetWith_inv`, the environment at reset being a fresh one. -/
theorem resetSatisfiesInv : Obligations.ResetSatisfiesInv :=
  ⟨resetWith_inv resetParams Env.fresh, fun p => resetWith_inv p Env.fresh⟩

/-- Every reachable state has the invariant: reset has it, and neither the environment nor a step ends it. -/
theorem Reachable.inv {s : State} (h : Reachable s) : s.Inv := by
  induction h with
  | reset p env => exact resetWith_inv p env
  | environment _ _ _ ih => exact ih
  | step _ _ _ hstep ih => exact step_inv ih hstep

/-- A search that polls takes no notice of a command word (30_encoding.md R110; 93_implementation_defined.md
I19). -/
theorem step_polling_command {s : State} (hp : s.phase = .sPoll) (w : CmdWord) (rest : List HostInput) :
    step (s.withInputs (.command w :: rest)) = step (s.withInputs (.nothing :: rest)) := by
  rw [step_polling (s := s.withInputs (.command w :: rest)) hp (.inr (.inr ⟨w, rfl⟩)),
    step_polling (s := s.withInputs (.nothing :: rest)) hp (.inr (.inl rfl)),
    State.searchPolls_withInputs, State.searchPolls_withInputs]
  rfl

/-- The mask of the stop level and its field's value are 0 together (30_encoding.md R91). -/
theorem stopLevel_eq_zero_of_shift {b : Byte} (h : (b &&& 0x60) >>> 5 = 0) : b &&& 0x60 = 0 := by
  revert b
  decide

/-- Settles O57: by the invariant of every reachable state. -/
theorem reachableStates : Obligations.ReachableStates := by
  intro s hs
  obtain ⟨⟨unused, stopLevel⟩, mirrors, side, ⟨phase, returned⟩, -, -⟩ := hs.inv
  refine ⟨unused, ?_, mirrors, ?_, returned, fun hbusy w rest => ?_⟩
  · exact fun hzero => stopLevel (stopLevel_eq_zero_of_shift hzero)
  · rw [← side]
    cases s.side <;> simp [Side.bit]
  · exact step_polling_command (phase.resolve_left hbusy).1 w rest

/-! ## The sticky faults (10_state.md R33; 60_exceptions.md R314) -/

/-- Faults are only added. -/
theorem Advances.fault_kept {p : Bool} {s t : State} (h : Advances p s t) : s.fault &&& t.fault = s.fault := by
  obtain ⟨bits, -, hfault⟩ := h.faults
  rw [hfault, and_or_absorb]

/-- Settles O53: a waiting block, a command word and a polling search only add faults; the other steps are
resets. -/
theorem faultClearedByResetOnly : Obligations.FaultClearedByResetOnly := by
  intro s t h
  obtain ⟨rest, ⟨-, -, waits⟩ | ⟨w, -, -, runs⟩ | ⟨n, -, hi, isReset⟩ | ⟨w, n, u, -, hi, -, isCut⟩ |
    ⟨-, -, pollsOn⟩ | ⟨n, -, hr, searchReset⟩⟩ := step_cases h
  · left; simp [waits]
  · exact .inl (runWord_advances runs).fault_kept
  · exact .inr ⟨⟨n, rest, .inl hi⟩, by rw [isReset]; rfl, by rw [isReset]; rfl⟩
  · exact .inr ⟨⟨n, rest, .inr ⟨w, hi⟩⟩, by rw [isCut]; rfl, by rw [isCut]; rfl⟩
  · left; rw [pollsOn]; exact (Advances.refl true s).searchPolls.fault_kept
  · exact .inr ⟨⟨n, rest, hr⟩, by rw [searchReset]; rfl, by rw [searchReset]; rfl⟩

/-! ## Who writes what (10_state.md R27, R31, R32; 20_memory.md R61) -/

@[simp] theorem State.writeMirror_freqNom (s : State) (m : Mirror) (v : Bool) :
    (s.writeMirror m v).freqNom = s.freqNom := by cases m <;> rfl

@[simp] theorem State.writeMirror_rx (s : State) (m : Mirror) (v : Bool) :
    (s.writeMirror m v).rx = s.rx := by cases m <;> rfl

@[simp] theorem State.writeMirror_env (s : State) (m : Mirror) (v : Bool) :
    (s.writeMirror m v).env = s.env := by cases m <;> rfl

@[simp] theorem State.determineSide_freqNom (s : State) (f : Int) : (s.determineSide f).freqNom = s.freqNom := by
  simp [State.determineSide, State.probeCompare, State.probeLow, State.probeHigh, State.probe]

/-- Outside the tuning family no command changes `freq_nom` (10_state.md R32). -/
theorem CommandRun.freqNom_kept {s t : State} {op : Nat} (h : CommandRun s op t)
    (hop : op < 0x80 ∨ 0x90 ≤ op ∨ op = 0x82) : t.freqNom = s.freqNom := by
  cases h with
  | answer | setMirror | setPlain | setStopLevel | setSide | setWord | transmit | receiveStatus | probe => simp
  | refuseStopLevel => rfl
  | toggle => simp [State.toggle]
  | select | search | searchFrom | searchFromEdge | loadFrequency => omega

/-- Only the commands that read the bus change RX (10_state.md R27). -/
theorem CommandRun.rx_kept {s t : State} {op : Nat} (h : CommandRun s op t)
    (hop : op ≠ 0x71 ∧ (op < 0x80 ∨ 0x87 ≤ op)) : t.rx = s.rx := by
  cases h with
  | answer | setMirror | setPlain | setStopLevel | setSide | setWord | transmit | loadFrequency => simp
  | refuseStopLevel => rfl
  | toggle => simp [State.toggle]
  | receiveStatus | select | probe | search | searchFrom | searchFromEdge => omega

/-- The codec, the converter and LOAD_FREQUENCY never reach the bus (20_memory.md R61). -/
theorem CommandRun.env_kept {s t : State} {op : Nat} (h : CommandRun s op t) (hop : op < 0x70 ∨ op = 0x87) :
    t.env = s.env := by
  cases h with
  | answer | setMirror | setPlain | setStopLevel | setSide | setWord | loadFrequency => simp
  | refuseStopLevel => rfl
  | transmit | receiveStatus | select | probe | search | searchFrom | searchFromEdge | toggle => omega

/-- Only SET_INJ_SIDE and the commands that probe change `side` and its bit (10_state.md R31). -/
theorem CommandRun.side_kept {s t : State} {op : Nat} (h : CommandRun s op t)
    (hop : op ≠ 0x05 ∧ (op < 0x80 ∨ op = 0x83 ∨ 0x87 ≤ op)) :
    t.side = s.side ∧ t.tx.b2.getLsbD 4 = s.tx.b2.getLsbD 4 := by
  have hwrites : writesSide op = false := by simp [writesSide]; omega
  obtain kept | ⟨written, -⟩ := h.advances.side
  · exact kept
  · rw [hwrites] at written; cases written

/-- Settles O59: one lemma for each clause, by the kind of the command. -/
theorem stateOwners : Obligations.StateOwners := by
  intro i s t h
  have hrun := exec_commandRun h
  exact ⟨hrun.freqNom_kept, hrun.side_kept, hrun.rx_kept, hrun.env_kept, hrun.advances.unused⟩

end Sys2Proof.Machine

/-! ## The settle delay (20_memory.md R61, R66)

Only TRANSMIT and RECEIVE_STATUS reach the bus, and each makes its transaction and the delay after it. The
relation below reads the environment alone, which the other operations leave as it is. -/

namespace Sys2Proof.Machine

/-- Traffic of the pattern of R66 can be followed by more of it. -/
theorem settled_append {c c' : List BusEvent} (h : settled c = true) (h' : settled c' = true) :
    settled (c ++ c') = true := by
  induction c using settled.induct with
  | case1 => exact h'
  | case2 dev im ok ms rest ih =>
    simp only [List.cons_append, settled, Bool.and_eq_true] at h ⊢
    exact h.imp_right ih
  | case3 dev count d ms rest ih =>
    simp only [List.cons_append, settled, Bool.and_eq_true] at h ⊢
    exact h.imp_right ih
  | case4 l hnil hwrite hread => simp [settled] at h

/-- From the environment `e` to `e'` the trace has grown by traffic of the pattern of R66, if at all. -/
def Env.SettledTo (e e' : Env) : Prop := ∃ calls, e'.trace = e.trace ++ calls ∧ settled calls = true

theorem Env.SettledTo.refl (e : Env) : e.SettledTo e := ⟨[], by simp, rfl⟩

theorem Env.SettledTo.append {e e' e'' : Env} {calls : List BusEvent} (h : e.SettledTo e')
    (ht : e''.trace = e'.trace ++ calls) (hcalls : settled calls = true) : e.SettledTo e'' := by
  obtain ⟨earlier, htrace, hearlier⟩ := h
  exact ⟨earlier ++ calls, by rw [ht, htrace, List.append_assoc], settled_append hearlier hcalls⟩

/-- The calls such growth has made are what `newCalls` reads off the two traces. -/
theorem Env.SettledTo.newCalls_settled {s t : State} (h : s.env.SettledTo t.env) :
    t.env.trace = s.env.trace ++ newCalls s t ∧ settled (newCalls s t) = true := by
  obtain ⟨calls, htrace, hcalls⟩ := h
  have hnew : newCalls s t = calls := by rw [newCalls, htrace, List.drop_left]
  rw [hnew]
  exact ⟨htrace, hcalls⟩

section
variable {e : Env} {t : State}

/-! ### The shared operations: two reach the bus, the others keep the environment -/

theorem Env.SettledTo.transmit (h : e.SettledTo t.env) : e.SettledTo t.transmit.env :=
  h.append t.transmit_trace rfl

theorem Env.SettledTo.receiveStatus (h : e.SettledTo t.env) : e.SettledTo t.receiveStatus.env :=
  h.append t.receiveStatus_trace rfl

theorem Env.SettledTo.writeMirror {m : Mirror} {v : Bool} (h : e.SettledTo t.env) :
    e.SettledTo (t.writeMirror m v).env := by
  rwa [State.writeMirror_env]

theorem Env.SettledTo.writeTx {fld : FieldSpec} {v : Byte} (h : e.SettledTo t.env) :
    e.SettledTo (t.writeTx fld v).env := h

theorem Env.SettledTo.writeTxBit {fld : FieldSpec} {v : Bool} (h : e.SettledTo t.env) :
    e.SettledTo (t.writeTxBit fld v).env := h

theorem Env.SettledTo.setSide {x : Side} (h : e.SettledTo t.env) : e.SettledTo (t.setSide x).env := h

theorem Env.SettledTo.putPll {w : PllWord} (h : e.SettledTo t.env) : e.SettledTo (t.putPll w).env := h

theorem Env.SettledTo.tuneWord {f : Int} (h : e.SettledTo t.env) : e.SettledTo (t.tuneWord f).env := h

theorem Env.SettledTo.inPhase {q : Phase} (h : e.SettledTo t.env) : e.SettledTo (t.inPhase q).env := h

theorem Env.SettledTo.raise {flag : FaultFlag} (h : e.SettledTo t.env) : e.SettledTo (t.raise flag).env := h

theorem Env.SettledTo.loadFrequency (h : e.SettledTo t.env) : e.SettledTo t.loadFrequency.env := h

theorem Env.SettledTo.returned {val : Val} (h : e.SettledTo t.env) : e.SettledTo (t.returned val).env := h

/-- The search's own registers are no part of the environment (10_state.md R35, R36). -/
theorem Env.SettledTo.withSearch {blf m : Bool} {polls : Nat} {q : Phase} (h : e.SettledTo t.env) :
    e.SettledTo ({ t with blf := blf, polls := polls, muteDuringSearch := m, phase := q } : State).env := h

/-- Nor are the comparator's latches (10_state.md R34). -/
theorem Env.SettledTo.withLatches {hi lo : Level} (h : e.SettledTo t.env) :
    e.SettledTo ({ t with levHi := hi, levLo := lo } : State).env := h

/-! ### The toggles and selecting a frequency (45_toggles.md R280; 44_tuning_search.md R241 to R244) -/

theorem Env.SettledTo.toggle {m : Mirror} (h : e.SettledTo t.env) : e.SettledTo (t.toggle m).env :=
  h.writeMirror.transmit

theorem Env.SettledTo.muteOn (h : e.SettledTo t.env) : e.SettledTo t.muteOn.env := h.writeMirror.transmit

theorem Env.SettledTo.muteOff (h : e.SettledTo t.env) : e.SettledTo t.muteOff.env := h.writeMirror.transmit

theorem Env.SettledTo.muteOnIf {m : Bool} (h : e.SettledTo t.env) : e.SettledTo (t.muteOnIf m).env := by
  cases m
  case false => exact h
  case true => exact h.muteOn

theorem Env.SettledTo.muteOffIf {m : Bool} (h : e.SettledTo t.env) : e.SettledTo (t.muteOffIf m).env := by
  cases m
  case false => exact h
  case true => exact h.muteOff

theorem Env.SettledTo.probe {f : Int} {x : Side} (h : e.SettledTo t.env) : e.SettledTo (t.probe f x).env :=
  h.setSide.putPll.transmit.receiveStatus

theorem Env.SettledTo.determineSide {f : Int} (h : e.SettledTo t.env) : e.SettledTo (t.determineSide f).env :=
  have high : e.SettledTo (t.probeHigh f).env := h.inPhase.probe.withLatches
  have low : e.SettledTo ((t.probeHigh f).probeLow f).env := high.inPhase.probe.withLatches
  low.inPhase.setSide.inPhase

theorem Env.SettledTo.selectFrequency {f : Int} {m : Bool} (h : e.SettledTo t.env) :
    e.SettledTo (t.selectFrequency f m).env :=
  h.muteOnIf.determineSide.tuneWord.transmit.muteOffIf

/-! ### Searching (44_tuning_search.md R250, R251, R256) -/

theorem Env.SettledTo.searchStart {d : Direction} {m : Bool} (h : e.SettledTo t.env) :
    e.SettledTo (t.searchStart d m).env := by
  cases m
  case false => exact h.inPhase.writeTxBit.writeTxBit.transmit.withSearch
  case true => exact h.inPhase.muteOn.inPhase.writeTxBit.writeTxBit.transmit.withSearch

theorem Env.SettledTo.searchClose (h : e.SettledTo t.env) : e.SettledTo t.searchClose.env := by
  have closed : e.SettledTo (t.writeTxBit searchModeField false).transmit.env := h.writeTxBit.transmit
  rw [State.searchClose]
  split
  next => exact closed.inPhase.muteOff.returned
  next => exact closed.returned

theorem Env.SettledTo.searchLatch (h : e.SettledTo t.env) : e.SettledTo t.searchLatch.env :=
  h.inPhase.withSearch.loadFrequency.searchClose

theorem Env.SettledTo.searchAbort (h : e.SettledTo t.env) : e.SettledTo t.searchAbort.env :=
  h.inPhase.raise.withSearch.searchClose

theorem Env.SettledTo.pollOnce (h : e.SettledTo t.env) : e.SettledTo t.pollOnce.env := h.receiveStatus.withSearch

/-- Each poll is a transaction and its delay, and so is each write of the end the loop comes to. -/
theorem Env.SettledTo.pollLoop {n : Nat} (h : e.SettledTo t.env) : e.SettledTo (State.pollLoop n t).env := by
  induction n generalizing t with
  | zero => exact h
  | succ n ih =>
    obtain ⟨-, found⟩ | ⟨-, -, gaveUp⟩ | ⟨-, -, pollsOn⟩ := State.pollLoop_succ_cases n t
    · rw [found]; exact h.pollOnce.searchLatch
    · rw [gaveUp]; exact h.pollOnce.searchAbort
    · rw [pollsOn]; exact ih h.pollOnce

theorem Env.SettledTo.searchPolls (h : e.SettledTo t.env) : e.SettledTo t.searchPolls.env := h.pollLoop

theorem Env.SettledTo.searchProc {d : Direction} {m : Bool} (h : e.SettledTo t.env) :
    e.SettledTo (t.searchProc d m).env := h.searchStart.searchPolls

theorem Env.SettledTo.searchFromProc {f : Int} {m : Bool} (h : e.SettledTo t.env) :
    e.SettledTo (t.searchFromProc f m).env :=
  h.selectFrequency.tuneWord.searchProc

end

/-- Every kind of command keeps to the pattern of R66. -/
theorem CommandRun.settledTo {s t : State} {op : Nat} (h : CommandRun s op t) : s.env.SettledTo t.env := by
  have start : s.env.SettledTo s.accept.env := .refl s.env
  cases h with
  | answer => exact start.returned
  | setMirror => exact start.writeMirror.returned
  | setPlain => exact start.writeTxBit.returned
  | setStopLevel => exact start.writeTx.returned
  | refuseStopLevel => exact start.raise.returned
  | setSide => exact start.setSide.returned
  | setWord => exact start.putPll.returned
  | transmit => exact start.transmit.returned
  | receiveStatus => exact start.receiveStatus.returned
  | select => exact start.selectFrequency.returned
  | probe => exact start.determineSide.returned
  | search => exact start.searchProc
  | searchFrom => exact start.searchFromProc
  | searchFromEdge => exact start.writeTxBit.searchFromProc
  | loadFrequency => exact start.loadFrequency.returned
  | toggle => exact start.toggle.returned

/-- Settles O33: by the kind of the command, and by the poll loop. -/
theorem trafficSettled : Obligations.TrafficSettled :=
  ⟨fun _ _ _ h => (exec_commandRun h).settledTo.newCalls_settled,
    fun s => (Env.SettledTo.refl s.env).searchPolls.newCalls_settled⟩

end Sys2Proof.Machine

/-! ## The operand forms (30_encoding.md R111, R112)

Decoding an operand and encoding it undo each other: the fields of an encoded arg are its operands, and an arg
whose must-be-zero bits are zero is the arg of its fields. -/

namespace Sys2Proof

/-- A must-be-zero mask holds for a bit (30_encoding.md R112). -/
theorem Arg.bit_false_of_mbz {arg mbz : Arg} (h : arg &&& mbz = 0) {i : Nat} (hi : mbz.getLsbD i = true) :
    arg.getLsbD i = false := by
  have hbit : (arg &&& mbz).getLsbD i = false := by rw [h]; exact BitVec.getLsbD_zero
  simpa [hi] using hbit

/-- One bit put at place `k` of arg. -/
theorem getLsbD_bitAt (b : Bool) {k : Nat} (hk : k < 32) (i : Nat) :
    ((BitVec.ofBool b).setWidth 32 <<< k).getLsbD i = (decide (i = k) && b) := by
  rw [BitVec.getLsbD_shiftLeft, BitVec.getLsbD_setWidth, BitVec.getLsbD_ofBool]
  by_cases hi : i = k
  · simp [hi, hk]
  · have hout : i < k ∨ i - k ≠ 0 := by omega
    obtain h | h := hout <;> simp [hi, h]

theorem argFlag_getLsbD (m : Bool) (i : Nat) : (argFlag m).getLsbD i = (decide (i = 28) && m) :=
  getLsbD_bitAt m (by decide) i

/-! ### The fields of an encoded arg -/

/-- A field in the low bits is read back, with or without a flag above it. -/
theorem low_argFlag_or {n : Nat} (hn : n ≤ 28) (m : Bool) (x : BitVec n) :
    (argFlag m ||| x.setWidth 32).extractLsb' 0 n = x := by
  apply BitVec.eq_of_getLsbD_eq
  intro i hi
  have hflag : i ≠ 28 := by omega
  have hwidth : i < 32 := by omega
  rw [BitVec.getLsbD_extractLsb', BitVec.getLsbD_or, argFlag_getLsbD, BitVec.getLsbD_setWidth]
  simp [hi, hflag, hwidth]

theorem low_setWidth {n : Nat} (hn : n ≤ 32) (x : BitVec n) : (x.setWidth 32).extractLsb' 0 n = x := by
  rw [BitVec.extractLsb'_setWidth_of_le (by omega), BitVec.extractLsb'_eq_self]

/-- The flag is read back, whatever field stands below it. -/
theorem flagM_argFlag_or {n : Nat} (hn : n ≤ 28) (m : Bool) (x : BitVec n) :
    Arg.flagM (argFlag m ||| x.setWidth 32) = m := by
  rw [Arg.flagM, BitVec.getLsbD_or, argFlag_getLsbD, BitVec.getLsbD_setWidth, BitVec.getLsbD_of_ge x 28 hn]
  simp

@[simp] theorem Side.ofBit_bit (s : Side) : Side.ofBit s.bit = s := by cases s <;> rfl

@[simp] theorem Side.bit_ofBit (b : Bool) : (Side.ofBit b).bit = b := by cases b <;> rfl

@[simp] theorem Direction.ofBit_bit (d : Direction) : Direction.ofBit d.bit = d := by cases d <;> rfl

@[simp] theorem Direction.bit_ofBit (b : Bool) : (Direction.ofBit b).bit = b := by cases b <;> rfl

/-! ### Decoding an encoded arg, form by form -/

theorem operandCheck_of_clear {mbz arg : Arg} {i j : Instr} (h : arg &&& mbz = 0) (hij : i = j) :
    operandCheck mbz arg i = .ok j := by
  rw [operandCheck, if_pos h, hij]

theorem operandCheck_of_not_clear {mbz arg : Arg} {i : Instr} (h : arg &&& mbz ≠ 0) :
    operandCheck mbz arg i = .error .illegalOperand := if_neg h

theorem takeNone_argNone (i : Instr) : takeNone i argNone = .ok i := operandCheck_of_clear none_mbz rfl

theorem takeBit_argBit (k : Bool → Instr) (v : Bool) : takeBit k (argBit v) = .ok (k v) :=
  operandCheck_of_clear (bit_mbz v) (by cases v <;> rfl)

theorem takeLevel_argLevel (k : BitVec 2 → Instr) {l : BitVec 2} (hl : stopLevelLegal l = true) :
    takeLevel k (argLevel l) = .ok (k l) := by
  have hread : Arg.levelV (argLevel l) = l := low_setWidth (by decide) l
  rw [takeLevel, hread, if_pos hl]
  exact operandCheck_of_clear (level_mbz l) rfl

theorem takeWord_argWord (k : PllWord → Instr) (w : PllWord) : takeWord k (argWord w) = .ok (k w) :=
  operandCheck_of_clear (word_mbz w) (congrArg k (low_setWidth (by decide) w))

theorem takeFreq_argFreq (k : FreqArg → Instr) (f : FreqArg) : takeFreq k (argFreq f) = .ok (k f) :=
  operandCheck_of_clear (freq_mbz f) (congrArg k (low_setWidth (by decide) f))

theorem takeFreqFlag_argFreqFlag (k : FreqArg → Bool → Instr) (f : FreqArg) (m : Bool) :
    takeFreqFlag k (argFreqFlag f m) = .ok (k f m) :=
  operandCheck_of_clear (freqFlag_mbz f m)
    (congrArg₂ k (low_argFlag_or (by decide) m f) (flagM_argFlag_or (by decide) m f))

theorem takeFreqSide_argFreqSide (k : FreqArg → Side → Instr) (f : FreqArg) (s : Side) :
    takeFreqSide k (argFreqSide f s) = .ok (k f s) := by
  have h := takeFreqFlag_argFreqFlag (fun f m => k f (Side.ofBit m)) f s.bit
  rwa [Side.ofBit_bit] at h

theorem takeWordSide_argWordSide (k : PllWord → Side → Instr) (w : PllWord) (s : Side) :
    takeWordSide k (argWordSide w s) = .ok (k w s) := by
  have hside : Side.ofBit (Arg.flagM (argWordSide w s)) = s :=
    (congrArg Side.ofBit (flagM_argFlag_or (by decide) s.bit w)).trans (Side.ofBit_bit s)
  exact operandCheck_of_clear (wordSide_mbz w s) (congrArg₂ k (low_argFlag_or (by decide) s.bit w) hside)

theorem takeChanFlag_argChanFlag (k : ChanArg → Bool → Instr) (c : ChanArg) (m : Bool) :
    takeChanFlag k (argChanFlag c m) = .ok (k c m) :=
  operandCheck_of_clear (chanFlag_mbz c m)
    (congrArg₂ k (low_argFlag_or (by decide) m c) (flagM_argFlag_or (by decide) m c))

theorem takeDirFlag_argDirFlag (k : Direction → Bool → Instr) (d : Direction) (m : Bool) :
    takeDirFlag k (argDirFlag d m) = .ok (k d m) :=
  operandCheck_of_clear (dirFlag_mbz d m) (by cases d <;> cases m <;> rfl)

theorem takeFlag_argFlag (k : Bool → Instr) (m : Bool) : takeFlag k (argFlag m) = .ok (k m) :=
  operandCheck_of_clear (flag_mbz m) (by cases m <;> rfl)

/-- Decoding the word of a legal command gives it back, by the operand form of the command. -/
theorem decode_encode {i : Instr} (hwf : i.wf = true) : decode (encode i) = .ok i := by
  rw [decode, encode, CmdWord.op_make, CmdWord.arg_make]
  cases i with
  | setPll => exact takeWord_argWord _ _
  | setStopLevel => exact takeLevel_argLevel _ hwf
  | setMute | setSearchMode | setSearchDir | setInjSide | setForcedMono | setMuteRight | setMuteLeft
  | setAux1 | setAux2 | setStandby | setBand | setXtal | setSoftMute | setHcc | setSnc | setSearchInd
  | setPllRef | setDeemph => exact takeBit_argBit _ _
  | encodeFreq => exact takeFreqSide_argFreqSide _ _ _
  | decodeFreq => exact takeWordSide_argWordSide _ _ _
  | selectFrequency | searchFrom => exact takeFreqFlag_argFreqFlag _ _ _
  | selectChannel => exact takeChanFlag_argChanFlag _ _ _
  | determineInjectionSide => exact takeFreq_argFreq _ _
  | search => exact takeDirFlag_argDirFlag _ _ _
  | searchFromBeginning | searchFromEnd => exact takeFlag_argFlag _ _
  | _ => exact takeNone_argNone _

theorem decode_of_encode_eq {w : CmdWord} {i : Instr} (hwf : i.wf = true) (h : encode i = w) :
    decode w = .ok i := h ▸ decode_encode hwf

/-- Settles O2: `decode_encode`. -/
theorem decodeOfEncode : Obligations.DecodeOfEncode := fun _ hwf => decode_encode hwf

/-- Settles O1: each word is the encoding of its command. -/
theorem writtenWordsDecode : Obligations.WrittenWordsDecode := by
  refine ⟨?_, ?_, ?_, ?_, ?_, ?_, ?_, ?_, ?_, ?_, ?_, ?_⟩ <;> exact decode_of_encode_eq rfl rfl

/-! ### Encoding the fields of a legal arg, form by form -/

section
variable {arg mbz : Arg} {n : Nat}

/-- An arg without a 1 above its low `n` bits is those bits. -/
theorem setWidth_low (h : arg &&& mbz = 0) (hmbz : ∀ i < 32, n ≤ i → mbz.getLsbD i = true) :
    (arg.extractLsb' 0 n).setWidth 32 = arg := by
  apply BitVec.eq_of_getLsbD_eq
  intro i hi
  obtain hlow | hhigh := Nat.lt_or_ge i n
  · simp [hi, hlow]
  · simp [Arg.bit_false_of_mbz h (hmbz i hi hhigh), Nat.not_lt.mpr hhigh]

/-- An arg without a 1 above its low `n` bits but at its flag is the flag and those bits. -/
theorem argFlag_or_low (hn : n ≤ 28) (h : arg &&& mbz = 0)
    (hmbz : ∀ i < 32, n ≤ i → i ≠ 28 → mbz.getLsbD i = true) :
    argFlag arg.flagM ||| (arg.extractLsb' 0 n).setWidth 32 = arg := by
  apply BitVec.eq_of_getLsbD_eq
  intro i hi
  rw [BitVec.getLsbD_or, argFlag_getLsbD, Arg.flagM]
  by_cases hflag : i = 28
  · simp [hflag, Nat.not_lt.mpr hn]
  · obtain hlow | hhigh := Nat.lt_or_ge i n
    · simp [hflag, hi, hlow]
    · simp [hflag, Arg.bit_false_of_mbz h (hmbz i hi hhigh hflag), Nat.not_lt.mpr hhigh]

theorem argNone_of_clear (h : arg &&& 0xFFFFFFFF = 0) : argNone = arg := by
  have hones : (0xFFFFFFFF : Arg) = BitVec.allOnes 32 := by decide
  rw [hones, BitVec.and_allOnes] at h
  exact h.symm

theorem argBit_bitV (h : arg &&& 0xFFFFFFFE = 0) : argBit arg.bitV = arg := by
  have hbit : BitVec.ofBool arg.bitV = arg.extractLsb' 0 1 := by
    apply BitVec.eq_of_getLsbD_eq
    intro i hi
    obtain rfl : i = 0 := by omega
    simp [Arg.bitV]
  rw [argBit, hbit]
  exact setWidth_low h (by decide)

theorem argLevel_levelV (h : arg &&& 0xFFFFFFFC = 0) : argLevel arg.levelV = arg := setWidth_low h (by decide)

theorem argWord_wordW (h : arg &&& 0xFFFFC000 = 0) : argWord arg.wordW = arg := setWidth_low h (by decide)

theorem argFreq_freqF (h : arg &&& 0xF0000000 = 0) : argFreq arg.freqF = arg := setWidth_low h (by decide)

theorem argFreqFlag_fields (h : arg &&& 0xE0000000 = 0) : argFreqFlag arg.freqF arg.flagM = arg :=
  argFlag_or_low (by decide) h (by decide)

theorem argFreqSide_fields (h : arg &&& 0xE0000000 = 0) :
    argFreqSide arg.freqF (Side.ofBit arg.flagM) = arg := by
  rw [argFreqSide, Side.bit_ofBit, argFreqFlag_fields h]

theorem argWordSide_fields (h : arg &&& 0xEFFFC000 = 0) :
    argWordSide arg.wordW (Side.ofBit arg.flagM) = arg := by
  rw [argWordSide, Side.bit_ofBit]
  exact argFlag_or_low (by decide) h (by decide)

theorem argChanFlag_fields (h : arg &&& 0xEFFFFC00 = 0) : argChanFlag arg.chanC arg.flagM = arg :=
  argFlag_or_low (by decide) h (by decide)

theorem argFlag_flagM (h : arg &&& 0xEFFFFFFF = 0) : argFlag arg.flagM = arg := by
  have hflag : argFlag arg.flagM ||| (arg.extractLsb' 0 0).setWidth 32 = arg :=
    argFlag_or_low (by decide) h (by decide)
  simpa using hflag

theorem argDirFlag_fields (h : arg &&& 0xCFFFFFFF = 0) :
    argDirFlag (Direction.ofBit arg.dirU) arg.flagM = arg := by
  have hmbz : ∀ i < 32, i ≠ 29 → i ≠ 28 → (0xCFFFFFFF : Arg).getLsbD i = true := by decide
  apply BitVec.eq_of_getLsbD_eq
  intro i hi
  rw [argDirFlag, Direction.bit_ofBit, BitVec.getLsbD_or, getLsbD_bitAt _ (by decide), argFlag_getLsbD, Arg.dirU,
    Arg.flagM]
  by_cases hu : i = 29
  · simp [hu]
  · by_cases hm : i = 28
    · simp [hm]
    · simp [hu, hm, Arg.bit_false_of_mbz h (hmbz i hi hu hm)]

end

end Sys2Proof

/-! ## What the decoder accepts and refuses (30_encoding.md R115)

The op is checked first: a reserved op is refused whatever its arg. A legal op is some command's, and its arg is
checked by that command's operand form. -/

namespace Sys2Proof.Machine

/-- No row of the opcode map has a reserved op. -/
theorem decodeOp_reserved {op : Nat} (h : reservedOp op = true) (arg : Arg) :
    decodeOp op arg = .error .illegalCommand := by
  unfold decodeOp
  split
  case h_76 => rfl
  all_goals exact absurd h (by decide)

/-- Every op that is not reserved is some command's (30_encoding.md R114): its word with arg 0 is one, or 1 where 0
is the reserved stop level. -/
theorem exists_opcode_of_legal {op : Byte} (h : reservedOp op.toNat = false) : ∃ i : Instr, i.opcode = op := by
  have hall : ∀ op : Byte, reservedOp op.toNat = false →
      (decodeOp op.toNat (if op = 0x04 then 1 else 0)).map Instr.opcode = .ok op := by decide
  have hop := hall op h
  cases hdec : decodeOp op.toNat (if op = 0x04 then 1 else 0) with
  | ok i => rw [hdec] at hop; exact ⟨i, by injection hop⟩
  | error e => rw [hdec] at hop; cases hop

/-- The outcome `d` of checking the arg of a legal op: refused, or accepted as the legal command the op and the arg
encode (30_encoding.md R112, R115). -/
def ArgChecked (op : Byte) (arg : Arg) (d : Except DecodeError Instr) : Prop :=
  (¬setterAccepts op.toNat arg ∧ d = .error .illegalOperand) ∨
  (setterAccepts op.toNat arg ∧ ∃ i : Instr, d = .ok i ∧ i.wf = true ∧ i.opcode = op ∧ i.operandBits = arg)

/-- Away from the stop level the must-be-zero bits are the whole check. -/
theorem operandCheck_argChecked {op : Byte} {mbz arg : Arg} {i : Instr} (hlevel : op.toNat ≠ 0x04)
    (hmbz : mustBeZero op.toNat = mbz)
    (h : arg &&& mbz = 0 → i.wf = true ∧ i.opcode = op ∧ i.operandBits = arg) :
    ArgChecked op arg (operandCheck mbz arg i) := by
  have haccepts : setterAccepts op.toNat arg ↔ arg &&& mbz = 0 := by simp [setterAccepts, hmbz, hlevel]
  rw [ArgChecked, haccepts]
  by_cases hclear : arg &&& mbz = 0
  · exact .inr ⟨hclear, i, operandCheck_of_clear hclear rfl, h hclear⟩
  · exact .inl ⟨hclear, operandCheck_of_not_clear hclear⟩

/-- SET_STOP_LEVEL checks its code first (30_encoding.md R101; 40_codec_setters.md R135). -/
theorem takeLevel_argChecked (arg : Arg) : ArgChecked 0x04 arg (takeLevel .setStopLevel arg) := by
  have haccepts : setterAccepts 0x04 arg ↔ arg &&& 0xFFFFFFFC = 0 ∧ stopLevelLegal arg.levelV = true := by
    simp [setterAccepts, mustBeZero, stopLevelLegal, Arg.levelV]
  show (¬setterAccepts 0x04 arg ∧ _) ∨ (setterAccepts 0x04 arg ∧ _)
  rw [haccepts, takeLevel]
  by_cases hlevel : stopLevelLegal arg.levelV = true
  · rw [if_pos hlevel]
    by_cases hclear : arg &&& 0xFFFFFFFC = 0
    · exact .inr ⟨⟨hclear, hlevel⟩, _, operandCheck_of_clear hclear rfl, hlevel, rfl, argLevel_levelV hclear⟩
    · exact .inl ⟨fun h => hclear h.1, operandCheck_of_not_clear hclear⟩
  · exact .inl ⟨fun h => hlevel h.2, if_neg hlevel⟩

/-- The check of a command's op and any arg, by the operand form of the command. -/
theorem decodeOp_opcode_argChecked (i : Instr) (arg : Arg) :
    ArgChecked i.opcode arg (decodeOp i.opcode.toNat arg) := by
  cases i with
  | setStopLevel => exact takeLevel_argChecked arg
  | setPll => exact operandCheck_argChecked (by simp [Instr.opcode]) rfl fun h => ⟨rfl, rfl, argWord_wordW h⟩
  | setMute | setSearchMode | setSearchDir | setInjSide | setForcedMono | setMuteRight | setMuteLeft
  | setAux1 | setAux2 | setStandby | setBand | setXtal | setSoftMute | setHcc | setSnc | setSearchInd
  | setPllRef | setDeemph =>
    exact operandCheck_argChecked (by simp [Instr.opcode]) rfl fun h => ⟨rfl, rfl, argBit_bitV h⟩
  | encodeFreq =>
    exact operandCheck_argChecked (by simp [Instr.opcode]) rfl fun h => ⟨rfl, rfl, argFreqSide_fields h⟩
  | decodeFreq =>
    exact operandCheck_argChecked (by simp [Instr.opcode]) rfl fun h => ⟨rfl, rfl, argWordSide_fields h⟩
  | selectFrequency | searchFrom =>
    exact operandCheck_argChecked (by simp [Instr.opcode]) rfl fun h => ⟨rfl, rfl, argFreqFlag_fields h⟩
  | selectChannel =>
    exact operandCheck_argChecked (by simp [Instr.opcode]) rfl fun h => ⟨rfl, rfl, argChanFlag_fields h⟩
  | determineInjectionSide =>
    exact operandCheck_argChecked (by simp [Instr.opcode]) rfl fun h => ⟨rfl, rfl, argFreq_freqF h⟩
  | search =>
    exact operandCheck_argChecked (by simp [Instr.opcode]) rfl fun h => ⟨rfl, rfl, argDirFlag_fields h⟩
  | searchFromBeginning | searchFromEnd =>
    exact operandCheck_argChecked (by simp [Instr.opcode]) rfl fun h => ⟨rfl, rfl, argFlag_flagM h⟩
  | _ => exact operandCheck_argChecked (by simp [Instr.opcode]) rfl fun h => ⟨rfl, rfl, argNone_of_clear h⟩

theorem decode_of_reserved {w : CmdWord} (h : reservedOp w.op.toNat = true) :
    decode w = .error .illegalCommand := decodeOp_reserved h w.arg

/-- A legal op is some command's, and the word is checked by that command's form. -/
theorem decode_argChecked {w : CmdWord} (h : reservedOp w.op.toNat = false) :
    ArgChecked w.op w.arg (decode w) := by
  obtain ⟨i, hi⟩ := exists_opcode_of_legal h
  rw [decode, ← hi]
  exact decodeOp_opcode_argChecked i w.arg

/-- An accepted word is the word of the legal command it gives. -/
theorem encode_of_decode {w : CmdWord} {i : Instr} (h : decode w = .ok i) : i.wf = true ∧ encode i = w := by
  cases hr : reservedOp w.op.toNat with
  | true => rw [decode_of_reserved hr] at h; cases h
  | false =>
    obtain ⟨-, refused⟩ | ⟨-, j, hj, hwf, hop, harg⟩ := decode_argChecked hr
    · rw [refused] at h; cases h
    · rw [hj] at h
      injection h with hji
      subst hji
      exact ⟨hwf, by rw [encode, hop, harg, CmdWord.make_op_arg]⟩

/-- Settles O3: `encode_of_decode`. -/
theorem encodeOfDecode : Obligations.EncodeOfDecode := fun _ _ h => encode_of_decode h

/-! ### What a word does (30_encoding.md R110, R113, R115) -/

theorem runWord_accepted {w : CmdWord} {i : Instr} (h : decode w = .ok i) (s : State) :
    runWord w s = exec i s := by rw [runWord, h]

theorem runWord_refused {w : CmdWord} {e : DecodeError} (h : decode w = .error e) (s : State) :
    runWord w s = .next (s.ended (refusalFlag e).mask 0) := by
  simp only [runWord, h, State.refuse_eq, State.ended]

theorem not_setterAccepts_iff (op : Byte) (arg : Arg) :
    ¬setterAccepts op.toNat arg ↔
      (arg &&& mustBeZero op.toNat ≠ 0 ∨ (op = 0x04 ∧ arg.extractLsb' 0 2 = 0)) := by
  have hop : op.toNat = 0x04 ↔ op = 0x04 := BitVec.toNat_inj (y := 0x04)
  rw [setterAccepts, hop]
  tauto

/-- Settles O4: the three kinds of word are those of `decode_of_reserved` and `decode_argChecked`. -/
theorem illegalWordsRefused : Obligations.IllegalWordsRefused := by
  refine ⟨by rfl, fun op arg s hr => ?_, fun op arg s hl hbad => ?_, fun op arg hl hgood => ?_⟩
  · have hdec : decode (CmdWord.make op arg) = .error .illegalCommand := decode_of_reserved (by simpa using hr)
    exact ⟨hdec, runWord_refused hdec s⟩
  all_goals
    have hchecked : ArgChecked op arg (decode (CmdWord.make op arg)) := by
      simpa using decode_argChecked (w := CmdWord.make op arg) (by simpa using hl)
  · obtain ⟨-, hdec⟩ | ⟨haccepts, -⟩ := hchecked
    · exact ⟨hdec, runWord_refused hdec s⟩
    · exact absurd haccepts ((not_setterAccepts_iff op arg).mpr hbad)
  · obtain ⟨hrefuses, -⟩ | ⟨-, i, hdec, -, hop, -⟩ := hchecked
    · exact absurd ((not_setterAccepts_iff op arg).mp hrefuses) hgood
    · exact ⟨i, hdec, hop⟩

theorem execSetStopLevel_next (l : BitVec 2) (s : State) : ∃ t, execSetStopLevel l s = .next t := by
  rw [execSetStopLevel]
  split
  next => exact ⟨_, rfl⟩
  next => exact ⟨_, rfl⟩

/-- Every command has a next state. -/
theorem exec_next (i : Instr) (s : State) : ∃ t, exec i s = .next t := by
  cases i with
  | setStopLevel l => exact execSetStopLevel_next l s
  | _ => exact ⟨_, rfl⟩

theorem runWord_next (w : CmdWord) (s : State) : ∃ t, runWord w s = .next t := by
  cases h : decode w with
  | ok i => simpa only [runWord_accepted h] using exec_next i s
  | error e => exact ⟨_, runWord_refused h s⟩

/-- A result that stands where a block rests carries `res`. -/
theorem State.AtRest.result_res {s : State} (h : s.AtRest) {r : Result} (hr : s.result = some r) :
    r.res = s.res := by
  obtain ⟨-, val, hresult⟩ | ⟨polling, -⟩ := h
  · rw [hresult] at hr
    injection hr with hr
    rw [← hr]
  · rw [polling.result] at hr
    cases hr

/-- Settles O51: from acceptance on, `res` and FAULT gain the same bits, and `res` starts at 0. -/
theorem faultGathersRes : Obligations.FaultGathersRes := by
  intro w s
  obtain ⟨t, ht⟩ := runWord_next w s
  obtain ⟨bits, hres, hfault⟩ := (runWord_advances ht).faults
  rw [State.accept_res, show (0 : FaultBits) ||| bits = bits from BitVec.zero_or] at hres
  exact ⟨t, ht, by rw [hfault, hres, State.accept_fault], fun _ hr => (runWord_atRest ht).result_res hr⟩

/-! ### What a step does with the host's next input (30_encoding.md R110) -/

section
variable {s : State} {rest : List HostInput}

theorem step_idle_none (hp : s.phase = .idle) (h : s.env.inputs = []) : step s = .next s := by
  rw [step, hp]
  simp only [stepIdle, h]

theorem step_idle_nothing (hp : s.phase = .idle) (h : s.env.inputs = .nothing :: rest) :
    step s = .next (s.withInputs rest) := by
  rw [step, hp]
  simp only [stepIdle, h]

theorem step_idle_command {w : CmdWord} (hp : s.phase = .idle) (h : s.env.inputs = .command w :: rest) :
    step s = runWord w (s.withInputs rest) := by
  rw [step, hp]
  simp only [stepIdle, h]

end

/-- A poll does not use up the host's inputs. -/
theorem State.searchPolls_inputs (s : State) : s.searchPolls.env.inputs = s.env.inputs := by
  have h := State.searchPolls_withInputs s s.env.inputs
  rw [State.withInputs_self rfl] at h
  rw [h]
  rfl

/-- Settles O5: the step runs the word, and the word the command it decodes to. -/
theorem stepRunsDecoded : Obligations.StepRunsDecoded := by
  intro s w rest i hp hin hdec
  rw [step_idle_command hp hin, runWord_accepted hdec]

/-- Settles O7: `step_idle_none`, `step_idle_nothing` and `step_polling`. -/
theorem portWaits : Obligations.PortWaits :=
  ⟨fun _ => step_idle_none, fun _ _ => step_idle_nothing,
    fun s _ hp hh => ⟨step_polling hp hh, s.searchPolls_inputs⟩⟩

/-! ### The PLL word in an image (30_encoding.md R103) -/

/-- The PLL word of an image, bit by bit: byte 1 below, the low six bits of byte 0 above. -/
theorem getPllWord_getLsbD (im : Image) {i : Nat} (hi : i < 14) :
    (getPllWord im).getLsbD i = if i < 8 then im.b1.getLsbD i else im.b0.getLsbD (i - 8) := by
  rw [getPllWord, BitVec.getLsbD_or, BitVec.getLsbD_shiftLeft, BitVec.getLsbD_setWidth, BitVec.getLsbD_setWidth,
    BitVec.getLsbD_and]
  obtain hlow | hhigh := Nat.lt_or_ge i 8
  · simp [hlow, hi]
  · have hmask : ∀ j < 6, (0x3F : Byte).getLsbD j = true := by decide
    rw [hmask (i - 8) (by omega), BitVec.getLsbD_of_ge im.b1 i hhigh]
    simp [Nat.not_lt.mpr hhigh, hi, show i - 8 < 14 by omega]

/-- Byte 0 of a packed image, in the six bits of the word: the mask 0xC0 keeps none of them. -/
theorem putPllWord_b0_getLsbD (w : PllWord) (im : Image) {j : Nat} (hj : j < 6) :
    (putPllWord w im).b0.getLsbD j = w.getLsbD (8 + j) := by
  have hkept : ∀ j < 6, (0xC0 : Byte).getLsbD j = false := by decide
  show ((im.b0 &&& (0xC0 : Byte)) ||| (w >>> 8).setWidth 8).getLsbD j = w.getLsbD (8 + j)
  rw [BitVec.getLsbD_or, BitVec.getLsbD_and, hkept j hj, BitVec.getLsbD_setWidth, BitVec.getLsbD_ushiftRight]
  simp [show j < 8 by omega]

/-- Unpacking undoes packing. -/
theorem getPllWord_putPllWord (w : PllWord) (im : Image) : getPllWord (putPllWord w im) = w := by
  apply BitVec.eq_of_getLsbD_eq
  intro i (hi : i < 14)
  rw [getPllWord_getLsbD _ hi]
  obtain hlow | hhigh := Nat.lt_or_ge i 8
  · simp [hlow, putPllWord]
  · rw [if_neg (Nat.not_lt.mpr hhigh), putPllWord_b0_getLsbD w im (by omega), Nat.add_sub_cancel' hhigh]

theorem pllWord_high_lt (w : PllWord) : (w >>> 8).toNat < 64 := by
  have hw : w.toNat < 16384 := w.isLt
  rw [BitVec.toNat_ushiftRight, Nat.shiftRight_eq_div_pow]
  omega

/-- Settles O30: packing and unpacking are the rule's masks by definition, and `getPllWord_putPllWord`. -/
theorem pllWordAssembly : Obligations.PllWordAssembly :=
  fun w im => ⟨rfl, rfl, pllWord_high_lt w, getPllWord_putPllWord w im⟩

end Sys2Proof.Machine

/-! ## The setters (40_codec_setters.md R130 to R151)

First each setter's next state, its command word by the operand form of its op. Then what all twenty share: every
accepted one is the same masked write of TX, and its own mirror. -/

namespace Sys2Proof.Machine

/-! ### The command word and the way back to idle -/

/-- A row of the opcode map whose whole check is its must-be-zero mask (30_encoding.md R112, R115). -/
theorem encodedAs_of_check {op : Byte} {mbz : Arg} {k : Arg → Instr}
    (h : ∀ arg, decodeOp op.toNat arg = operandCheck mbz arg (k arg)) : EncodedAs op mbz k := by
  intro arg s
  have hdec : decode (CmdWord.make op arg) = operandCheck mbz arg (k arg) := by
    rw [decode, CmdWord.op_make, CmdWord.arg_make, h]
  exact ⟨fun hbad => runWord_refused (hdec.trans (operandCheck_of_not_clear hbad)) s,
    fun hclear => runWord_accepted (hdec.trans (operandCheck_of_clear hclear rfl)) s⟩

/-- A command that has raised no fault ends with none. -/
theorem State.returned_eq_ended {t : State} (hres : t.res = 0) (val : Val) : t.returned val = t.ended 0 val := by
  simp [State.returned, State.ended, hres]

theorem State.refuse_eq_ended (s : State) (e : DecodeError) : s.refuse e = s.ended (refusalFlag e).mask 0 := by
  rw [State.refuse_eq, State.ended]

/-- A command refused or ended twice has gathered no more faults than once. -/
theorem State.ended_ended (s : State) (bits : FaultBits) (val : Val) :
    (s.ended bits val).ended bits val = s.ended bits val := by
  simp [State.ended, BitVec.or_assoc]

@[simp] theorem State.ended_mirror (s : State) (bits : FaultBits) (val : Val) (m : Mirror) :
    (s.ended bits val).mirror m = s.mirror m := by cases m <;> rfl

/-! ### Writing one bit -/

/-- The shifted bit lies under the mask of a one-bit field. -/
theorem ofBit_shift_and_mask {fld : FieldSpec} (h : fld.OneBit) (v : Bool) :
    Byte.ofBit v <<< fld.shift &&& fld.mask = Byte.ofBit v <<< fld.shift := by
  obtain ⟨-, hmask⟩ := h
  cases v
  · simp [Byte.ofBit]
  · rw [hmask, BitVec.twoPow, Byte.ofBit, if_pos rfl]
    exact BitVec.and_self

/-- The write of a one-bit field as the rules write it, without the second mask (40_codec_setters.md R131). -/
theorem writeBit_eq {fld : FieldSpec} (h : fld.OneBit) (v : Bool) (im : Image) :
    writeBit fld v im =
      im.set fld.byte ((im.get fld.byte &&& ~~~fld.mask) ||| (Byte.ofBit v <<< fld.shift)) := by
  rw [writeBit, writeField, ofBit_shift_and_mask h]

/-- The next state of a setter of a mirrored bit. -/
theorem setMirror_next (m : Mirror) (v : Bool) (s : State) :
    (.next ((s.accept.writeMirror m v).returned 0) : Host.Outcome State Fault Refusal) =
      .next (({ s.writeMirror m v with
        tx := s.tx.set m.field.byte
          ((s.tx.get m.field.byte &&& ~~~m.field.mask) ||| (Byte.ofBit v <<< m.field.shift)) }).ended 0 0) := by
  rw [← writeBit_eq m.field_oneBit, State.returned_eq_ended (by cases m <;> rfl)]
  cases m <;> rfl

/-- The next state of a setter of a bit without a mirror. -/
theorem setPlain_next {fld : FieldSpec} (h : fld ∈ plainFields) (v : Bool) (s : State) :
    (.next ((s.accept.writeTxBit fld v).returned 0) : Host.Outcome State Fault Refusal) =
      .next (({ s with
        tx := s.tx.set fld.byte ((s.tx.get fld.byte &&& ~~~fld.mask) ||| (Byte.ofBit v <<< fld.shift)) }).ended
          0 0) := by
  rw [← writeBit_eq (oneBit_of_plain h), State.returned_eq_ended rfl]
  rfl

/-- Settles O12: `setMirror_next` for each of the eight. -/
theorem mirroredSetters : Obligations.MirroredSetters :=
  ⟨⟨encodedAs_of_check fun _ => rfl, setMirror_next .muted⟩,
    ⟨encodedAs_of_check fun _ => rfl, setMirror_next .forcedMono⟩,
    ⟨encodedAs_of_check fun _ => rfl, setMirror_next .mutedRight⟩,
    ⟨encodedAs_of_check fun _ => rfl, setMirror_next .mutedLeft⟩,
    ⟨encodedAs_of_check fun _ => rfl, setMirror_next .standby⟩,
    ⟨encodedAs_of_check fun _ => rfl, setMirror_next .softMuted⟩,
    ⟨encodedAs_of_check fun _ => rfl, setMirror_next .highCutControl⟩,
    ⟨encodedAs_of_check fun _ => rfl, setMirror_next .stereoNoiseCancelling⟩⟩

/-- Settles O13: `setPlain_next` for each of the nine. -/
theorem plainSetters : Obligations.PlainSetters :=
  ⟨⟨encodedAs_of_check fun _ => rfl, setPlain_next (fld := searchModeField) (by decide)⟩,
    ⟨encodedAs_of_check fun _ => rfl, setPlain_next (fld := searchDirField) (by decide)⟩,
    ⟨encodedAs_of_check fun _ => rfl, setPlain_next (fld := aux1Field) (by decide)⟩,
    ⟨encodedAs_of_check fun _ => rfl, setPlain_next (fld := aux2Field) (by decide)⟩,
    ⟨encodedAs_of_check fun _ => rfl, setPlain_next (fld := bandField) (by decide)⟩,
    ⟨encodedAs_of_check fun _ => rfl, setPlain_next (fld := xtalField) (by decide)⟩,
    ⟨encodedAs_of_check fun _ => rfl, setPlain_next (fld := searchIndField) (by decide)⟩,
    ⟨encodedAs_of_check fun _ => rfl, setPlain_next (fld := pllRefField) (by decide)⟩,
    ⟨encodedAs_of_check fun _ => rfl, setPlain_next (fld := deemphField) (by decide)⟩⟩

/-! ### The PLL word, the injection side, the stop level -/

theorem setPll_next (w : PllWord) (s : State) :
    exec (.setPll w) s = .next (({ s with tx := putPllWord w s.tx }).ended 0 0) :=
  congrArg Host.Outcome.next (State.returned_eq_ended rfl 0)

/-- Settles O14: `setPll_next`, `putPllWord` being the rule's two bytes by definition. -/
theorem setPll : Obligations.SetPll := ⟨encodedAs_of_check fun _ => rfl, setPll_next⟩

theorem side_ofBit_eq_ite (v : Bool) : Side.ofBit v = if v then .high else .low := by cases v <;> rfl

theorem setInjSide_next (v : Bool) (s : State) :
    exec (.setInjSide v) s = .next (({ s with
      tx := writeBit injSideField v s.tx, side := if v then .high else .low }).ended 0 0) := by
  have hends : exec (.setInjSide v) s = .next ((s.accept.setSide (Side.ofBit v)).ended 0 0) :=
    congrArg Host.Outcome.next (State.returned_eq_ended rfl 0)
  rw [hends, State.setSide, Side.bit_ofBit, side_ofBit_eq_ite]
  rfl

/-- Settles O16: `setInjSide_next`, and the bit as the rule writes it. -/
theorem setInjSide : Obligations.SetInjSide := by
  refine ⟨encodedAs_of_check fun _ => rfl, fun v s => ?_⟩
  rw [setInjSide_next, writeBit_eq (by decide)]
  rfl

theorem stopLevelLegal_of_ne {l : BitVec 2} (h : l ≠ 0) : stopLevelLegal l = true := by
  simpa [stopLevelLegal] using h

theorem setStopLevel_next {l : BitVec 2} (h : stopLevelLegal l = true) (s : State) :
    exec (.setStopLevel l) s =
      .next (({ s with tx := writeField stopLevelField (l.setWidth 8) s.tx }).ended 0 0) :=
  (if_pos h).trans (congrArg Host.Outcome.next (State.returned_eq_ended rfl 0))

/-- A two-bit code at its place fills the mask of the stop level and nothing else (30_encoding.md R91). -/
theorem stopLevel_shift_and_mask (l : BitVec 2) : l.setWidth 8 <<< 5 &&& (0x60 : Byte) = l.setWidth 8 <<< 5 := by
  revert l
  decide

theorem reservedOp_of_setter {op : Nat} (hop : op < 0x14) : reservedOp op = false := by
  simp [reservedOp]
  omega

/-- A word whose op is a setter's and whose arg its operand form does not take (30_encoding.md R115). -/
theorem runWord_setter_refused {op : Byte} {arg : Arg} (hop : op.toNat < 0x14)
    (h : ¬setterAccepts op.toNat arg) (s : State) :
    runWord (CmdWord.make op arg) s = .next (s.ended 0b10000 0) := by
  obtain ⟨-, -, refused, -⟩ := illegalWordsRefused
  exact (refused op arg s (reservedOp_of_setter hop) ((not_setterAccepts_iff op arg).mp h)).2

theorem runWord_setStopLevel {arg : Arg} (hclear : arg &&& 0xFFFFFFFC = 0) (hlevel : arg.extractLsb' 0 2 ≠ 0)
    (s : State) : runWord (CmdWord.make 0x04 arg) s = exec (.setStopLevel (arg.extractLsb' 0 2)) s := by
  refine runWord_accepted ?_ s
  rw [decode, CmdWord.op_make, CmdWord.arg_make]
  exact (if_pos (stopLevelLegal_of_ne hlevel)).trans (operandCheck_of_clear hclear rfl)

theorem stopLevel_written_ne_zero {l : BitVec 2} (h : l ≠ 0) (b : Byte) :
    ((b &&& 0x9F) ||| (l.setWidth 8 <<< 5)) &&& 0x60 ≠ 0 := by
  have hcode : l.setWidth 8 <<< 5 ≠ (0 : Byte) := by
    revert l
    decide
  have hread : ((b &&& 0x9F) ||| (l.setWidth 8 <<< 5)) &&& 0x60 = l.setWidth 8 <<< 5 &&& (0x60 : Byte) := by
    simp [BitVec.and_or_distrib_right, BitVec.and_assoc]
  exact (hread.trans (stopLevel_shift_and_mask l)).trans_ne hcode

/-- Settles O15: the refused words, the accepted ones, the two kinds of command, and the bits left in TX. -/
theorem setStopLevel : Obligations.SetStopLevel := by
  refine ⟨fun arg s hbad => ?_, fun _ s hclear hlevel => runWord_setStopLevel hclear hlevel s, fun l s hl => ?_,
    fun s => ?_, fun l b hl => stopLevel_written_ne_zero hl b⟩
  · exact runWord_setter_refused (by decide)
      ((not_setterAccepts_iff 0x04 arg).mpr (hbad.imp_right fun hzero => ⟨rfl, hzero⟩)) s
  · rw [setStopLevel_next (stopLevelLegal_of_ne hl), ← stopLevel_shift_and_mask l]
    rfl
  · exact congrArg Host.Outcome.next (s.refuse_eq_ended .illegalOperand)

/-! ### The masked write of an image (30_encoding.md R91) -/

/-- `b` with the bits under `mask` replaced by those of `bits`. -/
def mergeByte (mask bits b : Byte) : Byte := (b &&& ~~~mask) ||| (bits &&& mask)

theorem mergeByte_inside (mask bits b : Byte) : mergeByte mask bits b &&& mask = bits &&& mask := by
  simp [mergeByte, BitVec.and_or_distrib_right, BitVec.and_assoc]

theorem mergeByte_outside (mask bits b : Byte) : mergeByte mask bits b &&& ~~~mask = b &&& ~~~mask := by
  simp [mergeByte, BitVec.and_or_distrib_right, BitVec.and_assoc]

theorem mergeByte_mergeByte (mask bits b : Byte) :
    mergeByte mask bits (mergeByte mask bits b) = mergeByte mask bits b := by
  rw [mergeByte, mergeByte_outside, ← mergeByte]

@[simp] theorem mergeByte_zero (b : Byte) : mergeByte 0#8 0#8 b = b := by
  simpa [mergeByte] using byte_and_allOnes b

/-- `im` with the bits under `mask` replaced by those of `bits`, byte by byte. -/
def mergeImage (mask bits im : Image) : Image :=
  { b0 := mergeByte mask.b0 bits.b0 im.b0, b1 := mergeByte mask.b1 bits.b1 im.b1
    b2 := mergeByte mask.b2 bits.b2 im.b2, b3 := mergeByte mask.b3 bits.b3 im.b3
    b4 := mergeByte mask.b4 bits.b4 im.b4 }

theorem sameInside_mergeImage (mask bits im : Image) : sameInside mask bits (mergeImage mask bits im) :=
  ⟨mergeByte_inside _ _ _, mergeByte_inside _ _ _, mergeByte_inside _ _ _, mergeByte_inside _ _ _,
    mergeByte_inside _ _ _⟩

theorem sameOutside_mergeImage (mask bits im : Image) : sameOutside mask im (mergeImage mask bits im) :=
  ⟨mergeByte_outside _ _ _, mergeByte_outside _ _ _, mergeByte_outside _ _ _, mergeByte_outside _ _ _,
    mergeByte_outside _ _ _⟩

theorem sameOutside_refl (mask im : Image) : sameOutside mask im im := ⟨rfl, rfl, rfl, rfl, rfl⟩

theorem mergeImage_mergeImage (mask bits im : Image) :
    mergeImage mask bits (mergeImage mask bits im) = mergeImage mask bits im := by
  simp only [mergeImage, mergeByte_mergeByte]

/-- The image of five zero bytes. -/
def blankImage : Image := { b0 := 0, b1 := 0, b2 := 0, b3 := 0, b4 := 0 }

/-- The generic field write is a masked write of one byte. -/
theorem writeField_eq_mergeImage (fld : FieldSpec) (v : Byte) (im : Image) :
    writeField fld v im =
      mergeImage (blankImage.set fld.byte fld.mask) (blankImage.set fld.byte (v <<< fld.shift)) im := by
  obtain ⟨byte, mask, shift⟩ := fld
  fin_cases byte <;> simp [mergeImage, blankImage, Image.set] <;> rfl

/-! ### What every accepted setter does (40_codec_setters.md R130) -/

/-- The state a setter of op `op` makes of `s`: the bits of its mask in TX, and the mirror of its bit. -/
def State.setterWritten (s : State) (op : Nat) (arg : Arg) : State :=
  { s with
    tx := mergeImage (setterMask op) (setterBits op arg) s.tx
    muted := if op = mirrorSetter .muted then arg.bitV else s.muted
    mutedLeft := if op = mirrorSetter .mutedLeft then arg.bitV else s.mutedLeft
    mutedRight := if op = mirrorSetter .mutedRight then arg.bitV else s.mutedRight
    softMuted := if op = mirrorSetter .softMuted then arg.bitV else s.softMuted
    highCutControl := if op = mirrorSetter .highCutControl then arg.bitV else s.highCutControl
    stereoNoiseCancelling :=
      if op = mirrorSetter .stereoNoiseCancelling then arg.bitV else s.stereoNoiseCancelling
    standby := if op = mirrorSetter .standby then arg.bitV else s.standby
    forcedMono := if op = mirrorSetter .forcedMono then arg.bitV else s.forcedMono
    side := if op = 0x05 then (if arg.bitV then .high else .low) else s.side }

theorem State.setterWritten_mirror (s : State) (op : Nat) (arg : Arg) (m : Mirror) :
    (s.setterWritten op arg).mirror m = if op = mirrorSetter m then arg.bitV else s.mirror m := by
  cases m <;> rfl

theorem ite_else_ite_same {α : Type} (c : Prop) [Decidable c] (a b : α) :
    (if c then a else if c then a else b) = if c then a else b := by
  split <;> rfl

/-- A setter finds nothing to change where it has just written. -/
theorem State.setterWritten_ended (s : State) (op : Nat) (arg : Arg) (bits : FaultBits) (val : Val) :
    ((s.setterWritten op arg).ended bits val).setterWritten op arg = (s.setterWritten op arg).ended bits val := by
  simp only [State.setterWritten, State.ended, mergeImage_mergeImage, ite_else_ite_same]

@[simp] theorem bitV_argBit (v : Bool) : Arg.bitV (argBit v) = v := by cases v <;> rfl

/-- The setter of a mirrored bit is the masked write and its mirror. -/
theorem setMirror_next_setterWritten (m : Mirror) (v : Bool) (s : State) :
    (.next ((s.accept.writeMirror m v).returned 0) : Host.Outcome State Fault Refusal) =
      .next ((s.setterWritten (mirrorSetter m) (argBit v)).ended 0 0) := by
  have htx : mergeImage (setterMask (mirrorSetter m)) (setterBits (mirrorSetter m) (argBit v)) s.tx =
      writeBit m.field v s.tx := by
    rw [writeBit, writeField_eq_mergeImage]
    cases m <;> cases v <;> rfl
  rw [State.returned_eq_ended (by cases m <;> rfl), State.setterWritten, htx, bitV_argBit]
  cases m <;> rfl

/-- The ops of the setters without a mirror, with their fields (30_encoding.md R91). -/
def plainSetterRows : List (Nat × FieldSpec) :=
  [(0x01, searchModeField), (0x03, searchDirField), (0x09, aux1Field), (0x0A, aux2Field), (0x0C, bandField),
    (0x0D, xtalField), (0x11, searchIndField), (0x12, pllRefField), (0x13, deemphField)]

/-- The setter of a bit without a mirror is the masked write. -/
theorem setPlain_next_setterWritten {op : Nat} {fld : FieldSpec} (h : (op, fld) ∈ plainSetterRows) (v : Bool)
    (s : State) :
    (.next ((s.accept.writeTxBit fld v).returned 0) : Host.Outcome State Fault Refusal) =
      .next ((s.setterWritten op (argBit v)).ended 0 0) := by
  have hrow : ∀ p ∈ plainSetterRows, (setterMask p.1 = blankImage.set p.2.byte p.2.mask ∧
      setterBits p.1 (argBit v) = blankImage.set p.2.byte (Byte.ofBit v <<< p.2.shift)) ∧ p.1 ≠ 0x05 := by
    cases v <;> decide
  have hmirror : ∀ p ∈ plainSetterRows, ∀ m, p.1 ≠ mirrorSetter m := by
    intro p hp m
    revert p
    cases m <;> decide
  obtain ⟨⟨hmask, hbits⟩, hside⟩ := hrow _ h
  have htx : mergeImage (setterMask op) (setterBits op (argBit v)) s.tx = writeBit fld v s.tx := by
    rw [writeBit, writeField_eq_mergeImage, hmask, hbits]
  rw [State.returned_eq_ended rfl, State.setterWritten, htx]
  simp only [hmirror _ h, if_neg hside, if_false]
  rfl

/-- The high six bits of the PLL word fill the mask of byte 0. -/
theorem argWord_high_and_mask (w : PllWord) :
    (argWord w >>> 8).setWidth 8 &&& (0x3F : Byte) = (w >>> 8).setWidth 8 := by
  ext i hi
  interval_cases i <;> simp [argWord]

/-- The PLL word is the masked write of two bytes (30_encoding.md R103). -/
theorem putPllWord_eq_mergeImage (w : PllWord) (im : Image) :
    putPllWord w im = mergeImage (setterMask 0x02) (setterBits 0x02 (argWord w)) im := by
  have hhigh : mergeByte 0x3F ((argWord w >>> 8).setWidth 8) im.b0 = (putPllWord w im).b0 := by
    rw [mergeByte, argWord_high_and_mask]
    rfl
  have hlow : mergeByte 0xFF ((argWord w).setWidth 8) im.b1 = (putPllWord w im).b1 := by
    rw [mergeByte, byte_and_allOnes]
    simp [argWord, putPllWord]
  calc putPllWord w im
      = { im with
          b0 := mergeByte 0x3F ((argWord w >>> 8).setWidth 8) im.b0
          b1 := mergeByte 0xFF ((argWord w).setWidth 8) im.b1 } := by rw [hhigh, hlow]; rfl
    _ = mergeImage (setterMask 0x02) (setterBits 0x02 (argWord w)) im := by
          simp [mergeImage, setterMask, setterBits]

/-- The stop level is the masked write of its two bits (30_encoding.md R101). -/
theorem writeStopLevel_eq_mergeImage (l : BitVec 2) (im : Image) :
    writeField stopLevelField (l.setWidth 8) im =
      mergeImage (setterMask 0x04) (setterBits 0x04 (argLevel l)) im := by
  have hbits : blankImage.set 2 (l.setWidth 8 <<< 5) = setterBits 0x04 (argLevel l) := by
    revert l
    decide
  rw [writeField_eq_mergeImage, ← hbits]
  rfl

/-- Every setter with a legal operand is its masked write and its mirror. -/
theorem exec_setter {i : Instr} (hwf : i.wf = true) (hop : i.opcode.toNat < 0x14) (s : State) :
    exec i s = .next ((s.setterWritten i.opcode.toNat i.operandBits).ended 0 0) := by
  cases i with
  | setMute v | setForcedMono v | setMuteRight v | setMuteLeft v | setStandby v | setSoftMute v | setHcc v
  | setSnc v => exact setMirror_next_setterWritten _ v s
  | setSearchMode v | setSearchDir v | setAux1 v | setAux2 v | setBand v | setXtal v | setSearchInd v
  | setPllRef v | setDeemph v => exact setPlain_next_setterWritten (by simp [plainSetterRows, Instr.opcode]) v s
  | setPll w =>
    rw [setPll_next, putPllWord_eq_mergeImage]
    rfl
  | setInjSide v =>
    rw [setInjSide_next, writeBit, writeField_eq_mergeImage]
    cases v <;> rfl
  | setStopLevel l =>
    rw [setStopLevel_next hwf, writeStopLevel_eq_mergeImage]
    rfl
  | _ => exact absurd hop (by simp [Instr.opcode])

theorem runWord_setter_accepted {op : Byte} {arg : Arg} (hop : op.toNat < 0x14)
    (h : setterAccepts op.toNat arg) (s : State) :
    runWord (CmdWord.make op arg) s = .next ((s.setterWritten op.toNat arg).ended 0 0) := by
  have hchecked : ArgChecked op arg (decode (CmdWord.make op arg)) := by
    simpa using decode_argChecked (w := CmdWord.make op arg) (by simpa using reservedOp_of_setter hop)
  obtain ⟨hrefuses, -⟩ | ⟨-, i, hdec, hwf, rfl, rfl⟩ := hchecked
  · exact absurd h hrefuses
  · rw [runWord_accepted hdec, exec_setter hwf hop]

/-- A word keeps `side` in step with its bit (10_state.md R31). -/
theorem runWord_sideAgrees {w : CmdWord} {s t : State} (h : runWord w s = .next t) (hs : s.SideAgrees) :
    t.SideAgrees := by
  obtain ⟨hside, hbit⟩ | ⟨-, written⟩ := (runWord_advances h).side
  · exact (congrArg Side.bit hside).trans (hs.trans hbit.symm)
  · exact written

/-- Settles O17: a refused word only ends with its fault; an accepted one is `State.setterWritten`. -/
theorem settersShared : Obligations.SettersShared := by
  intro op arg s hop
  by_cases haccepts : setterAccepts op.toNat arg
  · have hrun := runWord_setter_accepted hop haccepts
    have hmirrors := s.setterWritten_mirror op.toNat arg
    have hside : op.toNat = 0x05 ↔ op = 0x05 := BitVec.toNat_inj (y := 0x05)
    refine ⟨_, hrun s, fun h => absurd haccepts h,
      fun _ => ⟨rfl, BitVec.or_zero, sameInside_mergeImage _ _ _, fun m hm => ?_, fun h => ?_⟩,
      sameOutside_mergeImage _ _ _, fun m hm => ?_, fun h => if_neg (mt hside.mp h),
      (runWord_advances (hrun s)).mirrors, runWord_sideAgrees (hrun s),
      rfl, rfl, rfl, rfl, rfl, rfl, rfl, rfl, rfl, ?_⟩
    · rw [State.ended_mirror, hmirrors, if_pos hm]; rfl
    · exact if_pos (hside.mpr h)
    · rw [State.ended_mirror, hmirrors, if_neg hm]
    · rw [hrun, State.setterWritten_ended, State.ended_ended]
  · have hrun := runWord_setter_refused hop haccepts
    exact ⟨_, hrun s, fun _ => rfl, fun h => absurd h haccepts, sameOutside_refl _ _,
      fun m _ => s.ended_mirror _ _ m, fun _ => rfl, (runWord_advances (hrun s)).mirrors,
      runWord_sideAgrees (hrun s), rfl, rfl, rfl, rfl, rfl, rfl, rfl, rfl, rfl,
      by rw [hrun, State.ended_ended]⟩

end Sys2Proof.Machine

/-! ## The getters (41_codec_getters.md R160 to R195)

A getter writes nothing: between its acceptance and its return only `val` is made. What is left is that value, by
where it is read: a field of an image, a PLL word, a value of DriverState. -/

namespace Sys2Proof.Machine

/-- A command that returns at once ends the state it was accepted in, without a fault. -/
theorem State.accept_returned (s : State) (val : Val) : s.accept.returned val = s.ended 0 val :=
  State.returned_eq_ended rfl val

/-- The next state of every getter: what it read at acceptance, and nothing else changed. -/
theorem getter_next (read : State → Val) (s : State) :
    (.next (s.accept.returned (read s)) : Host.Outcome State Fault Refusal) = .next (s.ended 0 (read s)) :=
  congrArg Host.Outcome.next (s.accept_returned (read s))

/-! ### The values -/

/-- A field of either image is read as mask and shift (30_encoding.md R91). -/
theorem getField_next (fld : FieldSpec) (image : State → Image) (s : State) :
    (.next (s.accept.returned (fieldVal fld (image s))) : Host.Outcome State Fault Refusal) =
      .next (s.ended 0 ((((image s).get fld.byte &&& fld.mask) >>> fld.shift).setWidth 32)) := by
  rw [getter_next fun s => fieldVal fld (image s), fieldVal, readField]

/-- The PLL word fits its 14 bits, so its two bytes can be put together in 32 bits at once. -/
theorem getPllWord_setWidth (im : Image) :
    (getPllWord im).setWidth 32 = ((im.b0 &&& 0x3F).setWidth 32 <<< 8) ||| im.b1.setWidth 32 := by
  have hhigh : (im.b0 &&& 0x3F).toNat < 2 ^ 6 := Nat.and_lt_two_pow _ (by decide)
  have hlow : im.b1.toNat < 2 ^ 8 := im.b1.isLt
  apply BitVec.eq_of_toNat_eq
  rw [getPllWord, BitVec.toNat_setWidth_of_le (by decide)]
  simp only [BitVec.toNat_or, BitVec.toNat_shiftLeft, BitVec.toNat_setWidth, Nat.shiftLeft_eq, Config.pllW]
  exact congrArg₂ (· ||| ·) (by omega) (by omega)

theorem getPll_next (image : State → Image) (s : State) :
    (.next (s.accept.returned ((getPllWord (image s)).setWidth 32)) : Host.Outcome State Fault Refusal) =
      .next (s.ended 0 ((((image s).b0 &&& 0x3F).setWidth 32 <<< 8) ||| (image s).b1.setWidth 32)) := by
  rw [getter_next fun s => (getPllWord (image s)).setWidth 32, getPllWord_setWidth]

theorem getMirror_next (m : Mirror) (s : State) :
    (.next (s.accept.returned (Val.ofBit (s.mirror m))) : Host.Outcome State Fault Refusal) =
      .next (s.ended 0 (if s.mirror m then 1 else 0)) :=
  getter_next (fun s => Val.ofBit (s.mirror m)) s

/-- `side` reads as 1 for HIGH (41_codec_getters.md R193). -/
theorem ofBit_side_bit (x : Side) : Val.ofBit x.bit = if x = .high then 1 else 0 := by cases x <;> rfl

theorem getSide_next (s : State) :
    exec .getstSide s = .next (s.ended 0 (if s.side = .high then 1 else 0)) := by
  rw [← ofBit_side_bit]
  exact getter_next (fun s => Val.ofBit s.side.bit) s

/-! ### The statements, getter by getter -/

/-- Settles O18: `getField_next` for each of the nine fields, `getPll_next` for the PLL word. -/
theorem txGettersFirst : Obligations.TxGettersFirst :=
  ⟨⟨encodedAs_of_check fun _ => rfl, getField_next muteField State.tx⟩,
    ⟨encodedAs_of_check fun _ => rfl, getField_next searchModeField State.tx⟩,
    ⟨encodedAs_of_check fun _ => rfl, getPll_next State.tx⟩,
    ⟨encodedAs_of_check fun _ => rfl, getField_next searchDirField State.tx⟩,
    ⟨encodedAs_of_check fun _ => rfl, getField_next stopLevelField State.tx⟩,
    ⟨encodedAs_of_check fun _ => rfl, getField_next injSideField State.tx⟩,
    ⟨encodedAs_of_check fun _ => rfl, getField_next forcedMonoField State.tx⟩,
    ⟨encodedAs_of_check fun _ => rfl, getField_next muteRightField State.tx⟩,
    ⟨encodedAs_of_check fun _ => rfl, getField_next muteLeftField State.tx⟩,
    ⟨encodedAs_of_check fun _ => rfl, getField_next aux1Field State.tx⟩⟩

/-- Settles O19: `getField_next` for each of the ten. -/
theorem txGettersSecond : Obligations.TxGettersSecond :=
  ⟨⟨encodedAs_of_check fun _ => rfl, getField_next aux2Field State.tx⟩,
    ⟨encodedAs_of_check fun _ => rfl, getField_next standbyField State.tx⟩,
    ⟨encodedAs_of_check fun _ => rfl, getField_next bandField State.tx⟩,
    ⟨encodedAs_of_check fun _ => rfl, getField_next xtalField State.tx⟩,
    ⟨encodedAs_of_check fun _ => rfl, getField_next softMuteField State.tx⟩,
    ⟨encodedAs_of_check fun _ => rfl, getField_next hccField State.tx⟩,
    ⟨encodedAs_of_check fun _ => rfl, getField_next sncField State.tx⟩,
    ⟨encodedAs_of_check fun _ => rfl, getField_next searchIndField State.tx⟩,
    ⟨encodedAs_of_check fun _ => rfl, getField_next pllRefField State.tx⟩,
    ⟨encodedAs_of_check fun _ => rfl, getField_next deemphField State.tx⟩⟩

/-- Settles O20: `getField_next` for the three fields, `getPll_next` for the received PLL word. -/
theorem rxGetters : Obligations.RxGetters :=
  ⟨⟨encodedAs_of_check fun _ => rfl, getField_next readyField State.rx⟩,
    ⟨encodedAs_of_check fun _ => rfl, getField_next bandLimitField State.rx⟩,
    ⟨encodedAs_of_check fun _ => rfl, getField_next levelField State.rx⟩,
    ⟨encodedAs_of_check fun _ => rfl, getPll_next State.rx⟩⟩

/-- Settles O21: `getMirror_next` for the eight booleans, then `side`, `freq_nom` and FAULT. -/
theorem stateGetters : Obligations.StateGetters :=
  ⟨⟨encodedAs_of_check fun _ => rfl, getMirror_next .muted⟩,
    ⟨encodedAs_of_check fun _ => rfl, getMirror_next .mutedLeft⟩,
    ⟨encodedAs_of_check fun _ => rfl, getMirror_next .mutedRight⟩,
    ⟨encodedAs_of_check fun _ => rfl, getMirror_next .softMuted⟩,
    ⟨encodedAs_of_check fun _ => rfl, getMirror_next .highCutControl⟩,
    ⟨encodedAs_of_check fun _ => rfl, getMirror_next .stereoNoiseCancelling⟩,
    ⟨encodedAs_of_check fun _ => rfl, getMirror_next .standby⟩,
    ⟨encodedAs_of_check fun _ => rfl, getMirror_next .forcedMono⟩,
    ⟨encodedAs_of_check fun _ => rfl, getSide_next⟩,
    ⟨encodedAs_of_check fun _ => rfl, getter_next State.freqNom⟩,
    ⟨encodedAs_of_check fun _ => rfl, getter_next fun s => s.fault.setWidth 32⟩⟩

end Sys2Proof.Machine

/-! ## The converter (42_codec_frequency.md R201 to R207)

Both functions are read through the numerator n: the encoder divides n + 4096 by 8192 and keeps 14 bits, and the
numerator of a decoded frequency is 8192 times its word. The laws, the bounds and the round trip follow from these
equations for both sides at once. -/

namespace Sys2Proof.Machine

/-! ### The functions as equations -/

theorem encNumerator_high (f : Int) : encNumerator f .high = f + 225000 := rfl

theorem encNumerator_low (f : Int) : encNumerator f .low = f - 225000 := rfl

/-- The numerator is IF_HZ above or below its frequency (42_codec_frequency.md R201). -/
theorem encNumerator_eq_or (f : Int) (x : Side) :
    encNumerator f x = f + 225000 ∨ encNumerator f x = f - 225000 := by
  cases x
  case high => exact .inl rfl
  case low => exact .inr rfl

theorem encNumerator_add (f g : Int) (x : Side) : encNumerator (f + g) x = encNumerator f x + g := by
  cases x
  case high => rw [encNumerator_high, encNumerator_high]; omega
  case low => rw [encNumerator_low, encNumerator_low]; omega

theorem encUnwrapped_eq (f : Int) (x : Side) : encUnwrapped f x = (encNumerator f x + 4096) / 8192 := rfl

theorem enc_toNat (f : Int) (x : Side) : ((enc f x).toNat : Int) = encUnwrapped f x % 16384 := by
  rw [enc, BitVec.toNat_ofInt]
  exact Int.toNat_of_nonneg (Int.emod_nonneg _ (by decide))

theorem dec_high (w : PllWord) : dec w .high = (w.toNat : Int) * 8192 - 225000 := rfl

theorem dec_low (w : PllWord) : dec w .low = (w.toNat : Int) * 8192 + 225000 := rfl

/-- The numerator of a decoded frequency is a whole number of PLL steps, on its own side. -/
theorem encNumerator_dec (w : PllWord) (x : Side) : encNumerator (dec w x) x = (w.toNat : Int) * 8192 := by
  cases x
  case high => rw [encNumerator_high, dec_high, Int.sub_add_cancel]
  case low => rw [encNumerator_low, dec_low, Int.add_sub_cancel]

/-- The error of a word for a frequency, seen from the numerator. -/
theorem dec_sub (w : PllWord) (f : Int) (x : Side) :
    dec w x - f = (w.toNat : Int) * 8192 - encNumerator f x := by
  have hshift := encNumerator_add f (dec w x - f) x
  rw [add_sub_cancel, encNumerator_dec] at hshift
  omega

/-- Settles O22: `enc_toNat` on each side; at a tie the division rounds to the larger word. -/
theorem encoderFunction : Obligations.EncoderFunction := by
  have htie (n : Int) (h : n % 8192 = 4096) : (n + 4096) / 8192 = n / 8192 + 1 := by omega
  refine ⟨fun f => enc_toNat f .high, fun f => enc_toNat f .low, fun f hf => ?_, by decide, by decide, by decide⟩
  rw [enc_toNat, encUnwrapped_eq, encNumerator_high, htie _ hf]

/-- The values of the decoder, over both sides (42_codec_frequency.md R202). -/
theorem dec_bounds (w : PllWord) (x : Side) : -225000 ≤ dec w x ∧ dec w x ≤ 134434536 := by
  have hw := pllWord_lt w
  cases x
  case high => rw [dec_high]; omega
  case low => rw [dec_low]; omega

/-- Settles O23: the two equations, and the word below 16384. -/
theorem decoderFunction : Obligations.DecoderFunction := by
  intro w
  have hw := pllWord_lt w
  refine ⟨dec_high w, dec_low w, ?_⟩
  rw [dec_high, dec_low]
  omega

/-- Settles O26: each law from `encUnwrapped_eq`, the third through the 14 bits kept. -/
theorem converterLaws : Obligations.ConverterLaws := by
  have hstep (f : Int) (x : Side) : encUnwrapped (f + 8192) x = encUnwrapped f x + 1 := by
    rw [encUnwrapped_eq, encUnwrapped_eq, encNumerator_add]
    omega
  refine ⟨fun f g x hfg => ?_, hstep, fun f x => ?_, fun f => ?_, fun w => ?_⟩
  · obtain ⟨d, rfl⟩ : ∃ d, g = f + d := ⟨g - f, by omega⟩
    rw [encUnwrapped_eq, encUnwrapped_eq, encNumerator_add]
    omega
  · rw [enc, hstep, BitVec.ofInt_add]
    rfl
  · rw [encUnwrapped_eq, encUnwrapped_eq, encNumerator_high, encNumerator_low]
    omega
  · rw [dec_high, dec_low]
    omega

/-! ### The bounds (42_codec_frequency.md R206) -/

theorem sext32_dec_toInt (w : PllWord) (x : Side) : (sext32 (dec w x)).toInt = dec w x := by
  obtain ⟨hlo, hhi⟩ := dec_bounds w x
  exact sext32_toInt (by omega) (by omega)

/-- Settles O27: the operand has 28 bits and the offsets are constants; `dec_bounds` for the words. -/
theorem converterBounds : Obligations.ConverterBounds := by
  refine ⟨fun f x g hlo hhi => ?_, fun w x => ⟨(dec_bounds w x).1, (dec_bounds w x).2, sext32_dec_toInt w x⟩⟩
  have hf := freqArg_lt f
  have hn := encNumerator_eq_or g x
  rw [encUnwrapped_eq]
  exact ⟨by omega, by omega, by omega, by omega, sext32_toInt (by omega) (by omega)⟩

/-! ### The two commands (42_codec_frequency.md R203, R204) -/

/-- Settles O24: `putPllWord` is the rule's two bytes, and putting the word raises no fault. -/
theorem encodeFreq : Obligations.EncodeFreq := by
  refine ⟨encodedAs_of_check fun arg => ?_, fun f x s => ?_⟩
  · rw [← side_ofBit_eq_ite]
    rfl
  · exact congrArg Host.Outcome.next (State.returned_eq_ended rfl _)

/-- Settles O25: the frequency fits 32 bits, `sext32_dec_toInt`. -/
theorem decodeFreq : Obligations.DecodeFreq := by
  refine ⟨encodedAs_of_check fun arg => ?_, fun w x s => ⟨sext32 (dec w x), ?_, sext32_dec_toInt w x⟩⟩
  · rw [← side_ofBit_eq_ite]
    rfl
  · exact getter_next (fun _ => sext32 (dec w x)) s

/-! ### The round trip (42_codec_frequency.md R207) -/

theorem encUnwrapped_in_range_iff (f : Int) (x : Side) :
    (0 ≤ encUnwrapped f x ∧ encUnwrapped f x ≤ 16383) ↔
      (-4096 ≤ encNumerator f x ∧ encNumerator f x ≤ 134213631) := by
  rw [encUnwrapped_eq]
  omega

/-- The round trip of any frequency: the rounding error, and 134217728 Hz for each time the word has wrapped. -/
theorem dec_enc_sub (f : Int) (x : Side) :
    dec (enc f x) x - f =
      4096 - (encNumerator f x + 4096) % 8192 - encUnwrapped f x / 16384 * 134217728 := by
  rw [dec_sub, enc_toNat, encUnwrapped_eq]
  omega

/-- A word wraps no time exactly when the encoder does not overflow. -/
theorem wraps_eq_zero_iff (f : Int) (x : Side) :
    encUnwrapped f x / 16384 = 0 ↔ 0 ≤ encUnwrapped f x ∧ encUnwrapped f x ≤ 16383 := by
  omega

theorem dec_enc_sub_of_in_range {f : Int} {x : Side} (h : 0 ≤ encUnwrapped f x ∧ encUnwrapped f x ≤ 16383) :
    dec (enc f x) x - f = 4096 - (encNumerator f x + 4096) % 8192 := by
  rw [dec_enc_sub, (wraps_eq_zero_iff f x).2 h, Int.zero_mul, Int.sub_zero]

/-- Encoding undoes decoding: the numerator is a whole number of steps, which rounding keeps. -/
theorem enc_dec (w : PllWord) (x : Side) : enc (dec w x) x = w := by
  have hw := pllWord_lt w
  apply BitVec.eq_of_toNat_eq
  have hword : ((enc (dec w x) x).toNat : Int) = ((w.toNat : Int) * 8192 + 4096) / 8192 % 16384 := by
    rw [enc_toNat, encUnwrapped_eq, encNumerator_dec]
  omega

/-- The FM band, and every frequency within a probe's distance of it, are in range. -/
theorem encUnwrapped_of_band {f : Int} (x : Side) (hlo : 87000000 ≤ f) (hhi : f ≤ 108000000) :
    10593 ≤ encUnwrapped f x ∧ encUnwrapped f x ≤ 13211 ∧
      ∀ g : Int, f - 450000 ≤ g → g ≤ f + 450000 → 0 ≤ encUnwrapped g x ∧ encUnwrapped g x ≤ 16383 := by
  have hf := encNumerator_eq_or f x
  refine ⟨by rw [encUnwrapped_eq]; omega, by rw [encUnwrapped_eq]; omega, fun g hglo hghi => ?_⟩
  have hg := encNumerator_eq_or g x
  rw [encUnwrapped_in_range_iff]
  omega

/-- Settles O29: the range from `encUnwrapped_in_range_iff`, the errors from `dec_enc_sub`, the words from
`enc_dec`. -/
theorem roundTrip : Obligations.RoundTrip := by
  refine ⟨fun f => ?_, fun f => ?_, encUnwrapped_in_range_iff, fun f x => encUnwrapped_of_band x, by decide,
    by decide, fun f x hlo hhi => ?_, enc_dec, fun f x => ⟨_, dec_enc_sub f x, wraps_eq_zero_iff f x⟩⟩
  · rw [encUnwrapped_in_range_iff, encNumerator_high]
    omega
  · rw [encUnwrapped_in_range_iff, encNumerator_low]
    omega
  · rw [dec_enc_sub_of_in_range ⟨hlo, hhi⟩]
    omega

end Sys2Proof.Machine

/-! ## The bounds of `freq_nom` (10_state.md R32, 42_codec_frequency.md R206)

A command of the tuning family writes `freq_nom` with a frequency operand, a nudged one, a channel's frequency or a
decoded word, each between -225000 and 268535455; every other operation keeps it. -/

namespace Sys2Proof.Machine

/-- A value within the bounds of R206 stands in `freq_nom` unchanged. -/
theorem State.freqBounded_of_eq {s : State} {g : Int} (h : s.freqNom = sext32 g) (hlo : -225000 ≤ g)
    (hhi : g ≤ 268535455) : s.FreqBounded := by
  rw [State.FreqBounded, h, sext32_toInt (by omega) (by omega)]
  exact ⟨hlo, hhi⟩

theorem State.FreqBounded.of_kept {s t : State} (hs : s.FreqBounded) (h : t.freqNom = s.freqNom) :
    t.FreqBounded := by
  rwa [State.FreqBounded, h]

theorem freqBounded_of_next {t u : State} (h : (.next u : Host.Outcome State Fault Refusal) = .next t)
    (hu : u.FreqBounded) : t.FreqBounded := by
  injection h with h
  exact h ▸ hu

/-- `freq_nom` starts at 0 (10_state.md R48). -/
theorem resetWith_freqBounded (p : Params) (env : Env) :
    ({ State.resetWith p with env := env } : State).FreqBounded :=
  State.freqBounded_of_eq (g := 0) rfl (by decide) (by decide)

theorem State.loadFrequency_freqBounded (s : State) : s.loadFrequency.FreqBounded := by
  obtain ⟨hlo, hhi⟩ := dec_bounds (getPllWord s.rx) s.side
  exact State.freqBounded_of_eq s.loadFrequency_freqNom hlo (by omega)

/-! ### What a selection and a search write -/

@[simp] theorem State.muteOffIf_freqNom (s : State) (m : Bool) : (s.muteOffIf m).freqNom = s.freqNom := by
  cases m <;> simp [State.muteOffIf, State.muteOff]

@[simp] theorem State.selectFrequency_freqNom (s : State) (f : Int) (m : Bool) :
    (s.selectFrequency f m).freqNom = sext32 f := by simp [State.selectFrequency]

@[simp] theorem State.searchStart_freqNom (s : State) (d : Direction) (m : Bool) :
    (s.searchStart d m).freqNom = s.freqNom := by cases m <;> simp [State.searchStart, State.muteOn]

@[simp] theorem State.searchClose_freqNom (s : State) : s.searchClose.freqNom = s.freqNom := by
  cases h : s.muteDuringSearch <;> simp [State.searchClose, h, State.muteOff]

@[simp] theorem State.searchAbort_freqNom (s : State) : s.searchAbort.freqNom = s.freqNom := by
  simp [State.searchAbort]

@[simp] theorem State.pollOnce_freqNom (s : State) : s.pollOnce.freqNom = s.freqNom := by
  simp [State.pollOnce]

/-- A search that has found something loads a decoded word. -/
theorem State.searchLatch_freqBounded (s : State) : s.searchLatch.FreqBounded :=
  (State.loadFrequency_freqBounded _).of_kept (State.searchClose_freqNom _)

theorem State.FreqBounded.pollLoop {n : Nat} {s : State} (h : s.FreqBounded) :
    (State.pollLoop n s).FreqBounded := by
  induction n generalizing s with
  | zero => exact h
  | succ n ih =>
    obtain ⟨-, found⟩ | ⟨-, -, gaveUp⟩ | ⟨-, -, pollsOn⟩ := State.pollLoop_succ_cases n s
    · rw [found]; exact s.pollOnce.searchLatch_freqBounded
    · rw [gaveUp]; exact h.of_kept (by simp)
    · rw [pollsOn]; exact ih (h.of_kept s.pollOnce_freqNom)

theorem State.FreqBounded.searchPolls {s : State} (h : s.FreqBounded) : s.searchPolls.FreqBounded := h.pollLoop

theorem State.FreqBounded.searchProc {s : State} {d : Direction} {m : Bool} (h : s.FreqBounded) :
    (s.searchProc d m).FreqBounded := (h.of_kept (s.searchStart_freqNom d m)).searchPolls

/-- Either nudge moves a frequency by NUDGE_HZ (44_tuning_search.md R256). -/
theorem nudgedHz_bounds (d : Direction) (f : Int) : f - 100000 ≤ nudgedHz d f ∧ nudgedHz d f ≤ f + 100000 := by
  cases d
  case up => rw [show nudgedHz .up f = f + 100000 from rfl]; omega
  case down => rw [show nudgedHz .down f = f - 100000 from rfl]; omega

/-- SEARCH_FROM a frequency operand, or an edge of the band, nudges within the bounds. -/
theorem State.searchFromProc_freqBounded (s : State) {f : Int} (m : Bool) (hlo : 0 ≤ f) (hhi : f ≤ 268435455) :
    (s.searchFromProc f m).FreqBounded := by
  obtain ⟨hdown, hup⟩ := nudgedHz_bounds (Direction.ofBit (readBit searchDirField (s.selectFrequency f false).tx)) f
  exact State.FreqBounded.searchProc
    (State.freqBounded_of_eq (State.tuneWord_freqNom _ _) (by omega) (by omega))

/-- A frequency operand has 28 bits (30_encoding.md R104). -/
theorem freqOperand_bounds (f : FreqArg) : 0 ≤ freqOperand f ∧ freqOperand f ≤ 268435455 := by
  have hf := freqArg_lt f
  rw [freqOperand]
  omega

/-- A channel's frequency (44_tuning_search.md R246). -/
theorem channelHz_bounds (c : ChanArg) : 47900000 ≤ channelHz c ∧ channelHz c ≤ 252500000 := by
  have hc := chanArg_lt c
  have heq : channelHz c = 87900000 + ((c.toNat : Int) - 200) * 200000 := rfl
  omega

/-! ### Every command, every word, every step -/

/-- Outside the tuning family `freq_nom` is kept (`CommandRun.freqNom_kept`); a command of the family leaves it to
one of the procedures above. -/
theorem exec_freqBounded {i : Instr} {s t : State} (hs : s.FreqBounded) (h : exec i s = .next t) :
    t.FreqBounded := by
  have kept (hop : i.opcode.toNat < 0x80 ∨ 0x90 ≤ i.opcode.toNat ∨ i.opcode.toNat = 0x82) : t.FreqBounded :=
    hs.of_kept ((exec_commandRun h).freqNom_kept hop)
  cases i with
  | selectFrequency f m =>
    obtain ⟨hlo, hhi⟩ := freqOperand_bounds f
    exact freqBounded_of_next h
      (State.freqBounded_of_eq (s.accept.selectFrequency_freqNom _ m) (by omega) (by omega))
  | selectChannel c m =>
    obtain ⟨hlo, hhi⟩ := channelHz_bounds c
    exact freqBounded_of_next h
      (State.freqBounded_of_eq (s.accept.selectFrequency_freqNom _ m) (by omega) (by omega))
  | search => exact freqBounded_of_next h (State.FreqBounded.searchProc (s := s.accept) hs)
  | searchFrom f m =>
    obtain ⟨hlo, hhi⟩ := freqOperand_bounds f
    exact freqBounded_of_next h (s.accept.searchFromProc_freqBounded m hlo hhi)
  | searchFromBeginning m | searchFromEnd m =>
    exact freqBounded_of_next h (State.searchFromProc_freqBounded _ m (by decide) (by decide))
  | loadFrequency => exact freqBounded_of_next h s.accept.loadFrequency_freqBounded
  | _ => exact kept (by simp [Instr.opcode])

theorem runWord_freqBounded {w : CmdWord} {s t : State} (hs : s.FreqBounded) (h : runWord w s = .next t) :
    t.FreqBounded := by
  rw [runWord] at h
  split at h
  next => exact exec_freqBounded hs h
  next => exact freqBounded_of_next h hs

/-- Settles O28: by the six things a step can be; a reset puts `freq_nom` at 0. -/
theorem freqNomStaysBounded : Obligations.FreqNomStaysBounded := by
  intro s t hs h
  obtain ⟨rest, ⟨-, -, waits⟩ | ⟨w, -, -, runs⟩ | ⟨n, -, -, isReset⟩ | ⟨w, n, u, -, -, -, isCut⟩ |
    ⟨-, -, pollsOn⟩ | ⟨n, -, -, searchReset⟩⟩ := step_cases h
  · rw [waits]; exact hs
  · exact runWord_freqBounded (s := s.withInputs rest) hs runs
  · rw [isReset]; exact resetWith_freqBounded s.params _
  · rw [isCut]; exact resetWith_freqBounded s.params _
  · rw [pollsOn]; exact hs.searchPolls
  · rw [searchReset]; exact resetWith_freqBounded s.params _

end Sys2Proof.Machine

/-! ## The bus session (43_bus_session.md R221, R223)

Each command is one shared operation between acceptance and return. `transmit_after` and `receiveStatus_after` give the
operation in normal form and `after_returned` closes it, so what is left is that acceptance takes no bus answer. -/

namespace Sys2Proof.Machine

/-! ### Acceptance leaves the bus answers in place -/

@[simp] theorem State.accept_writeAnswerAt (s : State) (calls writes : Nat) :
    s.accept.writeAnswerAt calls writes = s.writeAnswerAt calls writes := rfl

@[simp] theorem State.accept_readAnswerAt (s : State) (calls reads : Nat) :
    s.accept.readAnswerAt calls reads = s.readAnswerAt calls reads := rfl

/-! ### One operation between acceptance and return -/

theorem State.accept_transmit_returned (s : State) (val : Val) :
    s.accept.transmit.returned val = (s.withCalls (writeCalls s.tx (s.writeAnswerAt 0 0))).ended
      (writeFault (s.writeAnswerAt 0 0)) val := by
  rw [State.transmit_after, State.after_returned, State.accept_tx, State.accept_writeAnswerAt]

/-- The received image can be stored before acceptance as well: the two write different fields. -/
theorem State.accept_withRx (s : State) (rx : Image) :
    { s.accept with rx := rx } = ({ s with rx := rx } : State).accept := rfl

theorem State.accept_receiveStatus_returned (s : State) (val : Val) :
    s.accept.receiveStatus.returned val =
      (({ s with rx := rxAfter s.rx (s.readAnswerAt 0 0) }).withCalls (readCalls (s.readAnswerAt 0 0))).ended
        (readFault (s.readAnswerAt 0 0)) val := by
  rw [State.receiveStatus_after, State.accept_withRx, State.after_returned, State.accept_rx,
    State.accept_readAnswerAt]

/-! ### The two commands -/

theorem exec_transmit (s : State) : exec .transmit s = .next (s.accept.transmit.returned 0) := rfl

theorem exec_receiveStatus (s : State) :
    exec .receiveStatus s = .next (s.accept.receiveStatus.returned 0) := rfl

/-- Settles O31: the normal form of TRANSMIT, from acceptance to return. -/
theorem transmit : Obligations.Transmit := by
  refine ⟨encodedAs_of_check fun _ => rfl, fun s => ?_⟩
  rw [exec_transmit, State.accept_transmit_returned]

/-- Settles O32: the normal form of RECEIVE_STATUS, from acceptance to return. -/
theorem receiveStatus : Obligations.ReceiveStatus := by
  refine ⟨encodedAs_of_check fun _ => rfl, fun s => ?_⟩
  rw [exec_receiveStatus, State.accept_receiveStatus_returned]

end Sys2Proof.Machine

/-! ## The images of the tuning engine (30_encoding.md R91, R92, R103; 44_tuning_search.md, helper functions)

The bytes the rules of 44_tuning_search.md give, from the field writes of the model's procedures. -/

namespace Sys2Proof.Machine

theorem Image.eq_of_bytes {im im' : Image} (h0 : im.b0 = im'.b0) (h1 : im.b1 = im'.b1) (h2 : im.b2 = im'.b2)
    (h3 : im.b3 = im'.b3) (h4 : im.b4 = im'.b4) : im = im' := by
  cases im
  cases im'
  simp_all

/-- What a mask keeps of a byte under that mask with other bits added. -/
theorem masked_or_and_mask {bits mask : Byte} (h : bits &&& mask = 0) (b : Byte) :
    ((b &&& mask) ||| bits) &&& mask = b &&& mask := by
  rw [BitVec.and_or_distrib_right, h, BitVec.and_assoc, BitVec.and_self]
  exact BitVec.or_zero

/-! ### One-bit fields -/

/-- A one-bit field that is set: its bit is added. -/
theorem writeBit_true {fld : FieldSpec} (h : fld.OneBit) (im : Image) :
    writeBit fld true im = im.set fld.byte (im.get fld.byte ||| fld.mask) := by
  have hbit : Byte.ofBit true <<< fld.shift = fld.mask := h.2.symm
  have hor (b mask : Byte) : (b &&& ~~~mask) ||| mask = b ||| mask := by
    ext j hj
    simp [Bool.or_and_distrib_right]
  rw [writeBit_eq h, hbit, hor]

/-- A one-bit field that is cleared: its bit is masked out. -/
theorem writeBit_false {fld : FieldSpec} (h : fld.OneBit) (im : Image) :
    writeBit fld false im = im.set fld.byte (im.get fld.byte &&& ~~~fld.mask) := by
  have hbit : Byte.ofBit false <<< fld.shift = 0 := BitVec.zero_shiftLeft _
  rw [writeBit_eq h, hbit]
  exact congrArg _ BitVec.or_zero

/-- A one-bit field reads as its bit (30_encoding.md R91). -/
theorem readBit_eq_imageBit {fld : FieldSpec} (h : fld.OneBit) (im : Image) :
    readBit fld im = imageBit im fld.byte fld.shift := by
  obtain ⟨hshift, hmask⟩ := h
  rw [readBit, readField, hmask, BitVec.and_twoPow, imageBit]
  cases (im.get fld.byte).getLsbD fld.shift
  · simp
  · have hone : BitVec.twoPow 8 fld.shift >>> fld.shift = (1 : Byte) := by
      generalize fld.shift = j at hshift
      interval_cases j <;> rfl
    simp [hone]

theorem readReady_eq (rx : Image) : readBit readyField rx = rx.b0.getLsbD 7 := readBit_eq_imageBit (by decide) rx

theorem readBandLimit_eq (rx : Image) : readBit bandLimitField rx = rx.b0.getLsbD 6 :=
  readBit_eq_imageBit (by decide) rx

theorem readSearchDir_eq (tx : Image) : readBit searchDirField tx = tx.b2.getLsbD 7 :=
  readBit_eq_imageBit (by decide) tx

/-- MUTE_ON sets the topmost bit of TX (44_tuning_search.md R241). -/
theorem writeMute_true (im : Image) : writeBit muteField true im = { im with b0 := im.b0 ||| 0x80 } :=
  writeBit_true (by decide) im

/-- MUTE_OFF clears it. -/
theorem writeMute_false (im : Image) : writeBit muteField false im = { im with b0 := im.b0 &&& 0x7F } :=
  writeBit_false (by decide) im

theorem writeSearchDir_true (im : Image) : writeBit searchDirField true im = { im with b2 := im.b2 ||| 0x80 } :=
  writeBit_true (by decide) im

theorem writeSearchDir_false (im : Image) : writeBit searchDirField false im = { im with b2 := im.b2 &&& 0x7F } :=
  writeBit_false (by decide) im

theorem writeSearchMode_false (im : Image) : writeBit searchModeField false im = searchEnded im :=
  writeBit_false (by decide) im

/-- Clearing `mute` after `search_mode` gives what a SEARCH with m = 1 leaves (44_tuning_search.md R251). -/
theorem searchEnded_unmuted (im : Image) :
    { searchEnded im with b0 := (searchEnded im).b0 &&& 0x7F } = searchLeft im true :=
  Image.eq_of_bytes ((BitVec.and_assoc im.b0 0xBF 0x7F).trans rfl) rfl rfl rfl rfl

/-- The three field writes a SEARCH opens with (44_tuning_search.md R250). -/
theorem searchImage_eq (im : Image) (d : Direction) (m : Bool) :
    writeBit searchModeField true
      (writeBit searchDirField d.bit (if m then { im with b0 := im.b0 ||| 0x80 } else im)) =
      searchImage im d m := by
  have hdir (im : Image) : writeBit searchDirField d.bit im =
      { im with b2 := (im.b2 &&& 0x7F) ||| (if d = .up then 0x80 else 0x00) } := by
    rw [writeBit_eq (by decide)]
    cases d <;> rfl
  rw [hdir, writeBit_true (by decide)]
  cases m
  case false => rfl
  case true =>
    have hbits : (im.b0 ||| 0x80) ||| 0x40 = im.b0 ||| 0xC0 := by rw [BitVec.or_assoc]; rfl
    exact Image.eq_of_bytes hbits rfl rfl rfl rfl

/-! ### The PLL word and the injection side -/

/-- `tuned` is `set_side`, then `put_pll` (44_tuning_search.md R242). -/
theorem putPllWord_writeSide (im : Image) (w : PllWord) (x : Side) :
    putPllWord w (writeBit injSideField x.bit im) = tuned im w x := by
  rw [writeBit_eq (by decide)]
  cases x <;> rfl

/-- The six bits of the word in byte 0 are none of the two above them. -/
theorem pllWord_high_and_mask (w : PllWord) : (w >>> 8).setWidth 8 &&& (0xC0 : Byte) = 0 := by
  ext i hi
  interval_cases i <;> simp

/-- A PLL word put over another replaces it. -/
theorem putPllWord_putPllWord (w w' : PllWord) (im : Image) :
    putPllWord w' (putPllWord w im) = putPllWord w' im :=
  Image.eq_of_bytes
    (congrArg (fun b => b ||| (w' >>> 8).setWidth 8) (masked_or_and_mask (pllWord_high_and_mask w) im.b0))
    rfl rfl rfl rfl

/-- So does a word put over a tuned image's. -/
theorem putPllWord_tuned (im : Image) (w w' : PllWord) (x : Side) :
    putPllWord w' (tuned im w x) = tuned im w' x := by
  rw [← putPllWord_writeSide, putPllWord_putPllWord, putPllWord_writeSide]

/-- The injection side written over another replaces it, and its bit is none of the word's. -/
theorem writeSide_tuned (im : Image) (w : PllWord) (x x' : Side) :
    writeBit injSideField x'.bit (tuned im w x) = tuned im w x' := by
  have hold : (if x = .high then 0x10 else 0x00) &&& (0xEF : Byte) = 0 := by cases x <;> rfl
  have hnew : Byte.ofBit x'.bit <<< 4 = if x' = .high then (0x10 : Byte) else 0x00 := by cases x' <;> rfl
  rw [writeBit_eq (by decide)]
  exact Image.eq_of_bytes rfl rfl (congrArg₂ (· ||| ·) (masked_or_and_mask hold im.b2) hnew) rfl rfl

theorem tuned_tuned (im : Image) (w w' : PllWord) (x x' : Side) :
    tuned (tuned im w x) w' x' = tuned im w' x' := by
  rw [← putPllWord_writeSide, writeSide_tuned, putPllWord_tuned]

/-! ### The signal level -/

theorem levelOf_lt (rx : Image) : levelOf rx < 16 := by
  have h : rx.b3.toNat < 256 := rx.b3.isLt
  rw [levelOf]
  omega

theorem rxLevel_toNat (rx : Image) : (rxLevel rx).toNat = levelOf rx := by
  have h : rx.b3.toNat < 256 := rx.b3.isLt
  have hfield : (readField levelField rx).toNat = rx.b3.toNat / 16 := by
    show ((rx.b3 &&& 0xF0) >>> 4).toNat = rx.b3.toNat / 16
    rw [BitVec.toNat_ushiftRight, BitVec.toNat_and, Nat.shiftRight_and_distrib]
    show rx.b3.toNat >>> 4 &&& (2 ^ 4 - 1) = rx.b3.toNat / 16
    rw [Nat.and_two_pow_sub_one_eq_mod, Nat.shiftRight_eq_div_pow]
    omega
  rw [rxLevel, BitVec.toNat_setWidth, hfield]
  exact Nat.mod_eq_of_lt (levelOf_lt rx)

/-- The level field is the upper half of byte 3 (30_encoding.md R92). -/
theorem rxLevel_eq (rx : Image) : rxLevel rx = BitVec.ofNat 4 (levelOf rx) := by
  rw [← rxLevel_toNat, BitVec.ofNat_toNat, BitVec.setWidth_eq]

/-- The comparator compares the two levels as integers (44_tuning_search.md R242). -/
theorem comparatorSide_rxLevel (hi lo : Image) :
    comparatorSide (rxLevel hi) (rxLevel lo) = if levelOf hi < levelOf lo then .high else .low := by
  simp only [comparatorSide, chooseHigh, BitVec.ult, rxLevel_toNat, decide_eq_true_eq]

end Sys2Proof.Machine

/-! ## Probing and selecting (44_tuning_search.md R240 to R246)

Every procedure in the normal form `State.after`: the fields it writes, the calls it makes and the faults they raise.
An operation after earlier calls sees the answers still to come, `after_writeAnswerAt` and `after_readAnswerAt`. -/

namespace Sys2Proof.Machine

/-- Calls made in a state that has come about by calls: `after_after` with the state between named by an equation. -/
theorem State.after_trans {s t : State} {c c' : List BusEvent} {b b' : FaultBits} (h : t = s.after c b) :
    t.after c' b' = s.after (c ++ c') (b ||| b') := by
  rw [h, State.after_after]

/-! ### Mute, probe, compare -/

/-- `s` with TX and the boolean of the hard mute replaced (10_state.md R29). -/
def State.withMute (s : State) (tx : Image) (muted : Bool) : State := { s with tx := tx, muted := muted }

theorem State.muteOn_after (s : State) :
    s.muteOn = (s.withMute { s.tx with b0 := s.tx.b0 ||| 0x80 } true).after
      (writeCalls { s.tx with b0 := s.tx.b0 ||| 0x80 } (s.writeAnswerAt 0 0)) (writeFault (s.writeAnswerAt 0 0)) := by
  rw [State.muteOn, State.transmit_after, State.writeMirror, writeMute_true]
  rfl

theorem State.muteOff_after (s : State) :
    s.muteOff = (s.withMute { s.tx with b0 := s.tx.b0 &&& 0x7F } false).after
      (writeCalls { s.tx with b0 := s.tx.b0 &&& 0x7F } (s.writeAnswerAt 0 0)) (writeFault (s.writeAnswerAt 0 0)) := by
  rw [State.muteOff, State.transmit_after, State.writeMirror, writeMute_false]
  rfl

section
variable (s : State) (calls : List BusEvent) (bits : FaultBits)

@[simp] theorem State.after_tx : (s.after calls bits).tx = s.tx := rfl
@[simp] theorem State.after_rx : (s.after calls bits).rx = s.rx := rfl
@[simp] theorem State.after_side : (s.after calls bits).side = s.side := rfl

theorem State.after_withMute (tx : Image) (muted : Bool) :
    (s.after calls bits).withMute tx muted = (s.withMute tx muted).after calls bits := rfl

/-- RX can be replaced before the calls as well: they write other fields. -/
theorem State.after_withRx (rx : Image) :
    ({ s.after calls bits with rx := rx } : State) = ({ s with rx := rx } : State).after calls bits := rfl

end

/-- One probe: the tuned image out, the status in. -/
theorem State.probe_after (s : State) (f : Int) (x : Side) :
    s.probe f x =
      ({ s with tx := tuned s.tx (enc f x) x, side := x, rx := rxAfter s.rx (s.readAnswerAt 1 0) } : State).after
        (writeCalls (tuned s.tx (enc f x) x) (s.writeAnswerAt 0 0) ++ readCalls (s.readAnswerAt 1 0))
        (writeFault (s.writeAnswerAt 0 0) ||| readFault (s.readAnswerAt 1 0)) := by
  have hside : (s.setSide x).putPll (enc f x) = { s with tx := tuned s.tx (enc f x) x, side := x } := by
    rw [← putPllWord_writeSide]
    rfl
  rw [State.probe, hside, State.transmit_after, State.receiveStatus_after, State.after_readAnswerAt,
    State.after_withRx, State.after_after]
  rfl

theorem probeCalls_writes (tx : Image) (f : Int) (k1 k2 : Bool) (d1 d2 : BusData) :
    (probeCalls tx f k1 d1 k2 d2).countP isWrite = 2 := rfl

theorem probeCalls_reads (tx : Image) (f : Int) (k1 k2 : Bool) (d1 d2 : BusData) :
    (probeCalls tx f k1 d1 k2 d2).countP isRead = 2 := rfl

/-- The state two probes with the answers `d1` and `d2` and the comparison leave, the primitive calls apart. -/
def State.probed (s : State) (f : Int) (d1 d2 : BusData) : State :=
  { s with
    tx := tuned s.tx (enc (f - 450000) .low) (probedSide s.rx d1 d2)
    rx := rxAfter (rxAfter s.rx d1) d2
    side := probedSide s.rx d1 d2
    levHi := BitVec.ofNat 4 (levelOf (rxAfter s.rx d1))
    levLo := BitVec.ofNat 4 (levelOf (rxAfter (rxAfter s.rx d1) d2)) }

theorem State.probeHigh_after (s : State) (f : Int) :
    s.probeHigh f =
      ({ s with
        tx := tuned s.tx (enc (f + 450000) .high) .high
        rx := rxAfter s.rx (s.readAnswerAt 1 0)
        side := .high
        levHi := rxLevel (rxAfter s.rx (s.readAnswerAt 1 0))
        phase := .pHigh } : State).after
        (writeCalls (tuned s.tx (enc (f + 450000) .high) .high) (s.writeAnswerAt 0 0) ++
          readCalls (s.readAnswerAt 1 0))
        (writeFault (s.writeAnswerAt 0 0) ||| readFault (s.readAnswerAt 1 0)) := by
  rw [State.probeHigh, State.probe_after]
  rfl

theorem State.probeLow_after (s : State) (f : Int) :
    s.probeLow f =
      ({ s with
        tx := tuned s.tx (enc (f - 450000) .low) .low
        rx := rxAfter s.rx (s.readAnswerAt 1 0)
        side := .low
        levLo := rxLevel (rxAfter s.rx (s.readAnswerAt 1 0))
        phase := .pLow } : State).after
        (writeCalls (tuned s.tx (enc (f - 450000) .low) .low) (s.writeAnswerAt 0 0) ++
          readCalls (s.readAnswerAt 1 0))
        (writeFault (s.writeAnswerAt 0 0) ||| readFault (s.readAnswerAt 1 0)) := by
  rw [State.probeLow, State.probe_after]
  rfl

/-- The two probes, one after the other. -/
theorem State.probeBoth_after (s : State) (f : Int) :
    (s.probeHigh f).probeLow f =
      ({ s with
        tx := tuned s.tx (enc (f - 450000) .low) .low
        rx := rxAfter (rxAfter s.rx (s.readAnswerAt 1 0)) (s.readAnswerAt 3 1)
        side := .low
        levHi := rxLevel (rxAfter s.rx (s.readAnswerAt 1 0))
        levLo := rxLevel (rxAfter (rxAfter s.rx (s.readAnswerAt 1 0)) (s.readAnswerAt 3 1))
        phase := .pLow } : State).after
        (probeCalls s.tx f (s.writeAnswerAt 0 0) (s.readAnswerAt 1 0) (s.writeAnswerAt 2 1) (s.readAnswerAt 3 1))
        (probeFaults (s.writeAnswerAt 0 0) (s.readAnswerAt 1 0) (s.writeAnswerAt 2 1) (s.readAnswerAt 3 1)) := by
  rw [State.probeHigh_after, State.probeLow_after]
  simp only [State.after_writeAnswerAt, State.after_readAnswerAt, State.after_tx, State.after_rx, tuned_tuned,
    List.countP_append, writeCalls_writes, writeCalls_reads, readCalls_writes, readCalls_reads]
  rw [probeCalls, probeFaults, BitVec.or_assoc _ (writeFault _)]
  exact State.after_trans rfl

/-- The comparison chooses the side and leaves the low probe's word (44_tuning_search.md R243). -/
theorem State.determineSide_after (s : State) (f : Int) :
    s.determineSide f = (s.probed f (s.readAnswerAt 1 0) (s.readAnswerAt 3 1)).after
      (probeCalls s.tx f (s.writeAnswerAt 0 0) (s.readAnswerAt 1 0) (s.writeAnswerAt 2 1) (s.readAnswerAt 3 1))
      (probeFaults (s.writeAnswerAt 0 0) (s.readAnswerAt 1 0) (s.writeAnswerAt 2 1) (s.readAnswerAt 3 1)) := by
  have hside : comparatorSide (rxLevel (rxAfter s.rx (s.readAnswerAt 1 0)))
      (rxLevel (rxAfter (rxAfter s.rx (s.readAnswerAt 1 0)) (s.readAnswerAt 3 1))) =
      probedSide s.rx (s.readAnswerAt 1 0) (s.readAnswerAt 3 1) := comparatorSide_rxLevel _ _
  rw [State.determineSide, State.probeBoth_after, State.probed,
    ← writeSide_tuned s.tx _ .low (probedSide _ _ _), ← hside, ← rxLevel_eq, ← rxLevel_eq]
  rfl

/-- Tuned to `f` after two probes with the answers `d1` and `d2`, the primitive calls apart. -/
def State.selected (s : State) (f : Int) (d1 d2 : BusData) : State :=
  { s.probed f d1 d2 with
    tx := tuned s.tx (enc f (probedSide s.rx d1 d2)) (probedSide s.rx d1 d2)
    freqNom := sext32 f }

theorem State.after_selected (s : State) (calls : List BusEvent) (bits : FaultBits) (f : Int) (d1 d2 : BusData) :
    (s.after calls bits).selected f d1 d2 = (s.selected f d1 d2).after calls bits := rfl

/-- Without mute: probe, tune, transmit (44_tuning_search.md R244). -/
theorem State.selectFrequency_after (s : State) (f : Int) :
    s.selectFrequency f false = (s.selected f (s.readAnswerAt 1 0) (s.readAnswerAt 3 1)).after
      (probeCalls s.tx f (s.writeAnswerAt 0 0) (s.readAnswerAt 1 0) (s.writeAnswerAt 2 1) (s.readAnswerAt 3 1) ++
        writeCalls (s.selected f (s.readAnswerAt 1 0) (s.readAnswerAt 3 1)).tx (s.writeAnswerAt 4 2))
      (probeFaults (s.writeAnswerAt 0 0) (s.readAnswerAt 1 0) (s.writeAnswerAt 2 1) (s.readAnswerAt 3 1) |||
        writeFault (s.writeAnswerAt 4 2)) := by
  have htuned (calls : List BusEvent) (bits : FaultBits) (d1 d2 : BusData) :
      ((s.probed f d1 d2).after calls bits).tuneWord f = (s.selected f d1 d2).after calls bits := by
    rw [State.selected, ← putPllWord_tuned s.tx (enc (f - 450000) .low)]
    rfl
  rw [show s.selectFrequency f false = ((s.determineSide f).tuneWord f).transmit from rfl,
    State.determineSide_after, htuned, State.transmit_after, State.after_writeAnswerAt, probeCalls_writes,
    probeCalls_reads, State.after_after, State.after_tx]
  rfl

/-- With mute it is the same between MUTE_ON and MUTE_OFF (44_tuning_search.md R244). -/
theorem State.selectFrequency_true (s : State) (f : Int) :
    s.selectFrequency f true = (s.muteOn.selectFrequency f false).muteOff := by
  simp only [State.selectFrequency, State.muteOnIf, State.muteOffIf, if_true, Bool.false_eq_true, if_false]

/-- The muted image is `mutedTx`, the tuned one `final`, and the probes' answers are `d1` and `d2`. -/
theorem State.selectFrequency_true_after (s : State) (f : Int) {mutedTx : Image}
    (hmuted : mutedTx = { s.tx with b0 := s.tx.b0 ||| 0x80 }) {d1 d2 : BusData} (hd1 : s.readAnswerAt 2 0 = d1)
    (hd2 : s.readAnswerAt 4 1 = d2) {final : Image}
    (hfinal : final = tuned mutedTx (enc f (probedSide s.rx d1 d2)) (probedSide s.rx d1 d2)) :
    s.selectFrequency f true =
      ((s.selected f d1 d2).withMute { final with b0 := final.b0 &&& 0x7F } false).after
        (writeCalls mutedTx (s.writeAnswerAt 0 0) ++
          (probeCalls mutedTx f (s.writeAnswerAt 1 1) d1 (s.writeAnswerAt 3 2) d2 ++
            (writeCalls final (s.writeAnswerAt 5 3) ++
              writeCalls { final with b0 := final.b0 &&& 0x7F } (s.writeAnswerAt 6 4))))
        (writeFault (s.writeAnswerAt 0 0) ||| probeFaults (s.writeAnswerAt 1 1) d1 (s.writeAnswerAt 3 2) d2 |||
          writeFault (s.writeAnswerAt 5 3) ||| writeFault (s.writeAnswerAt 6 4)) := by
  subst hmuted hd1 hd2 hfinal
  rw [State.selectFrequency_true, State.muteOn_after, State.selectFrequency_after, State.muteOff_after]
  simp only [State.after_selected, State.after_withMute, State.after_after, State.after_writeAnswerAt,
    State.after_readAnswerAt, State.after_tx, List.countP_append, writeCalls_writes, writeCalls_reads,
    probeCalls_writes, probeCalls_reads, BitVec.or_assoc, List.append_assoc]
  rfl

end Sys2Proof.Machine

/-! ## The commands that load, probe and select (44_tuning_search.md R240, R242, R244, R246) -/

namespace Sys2Proof.Machine

/-- LOAD_FREQUENCY's word, as the rule spells it out of the two bytes (44_tuning_search.md R240). -/
theorem getPllWord_toNat (im : Image) : (getPllWord im).toNat = (im.b0 &&& 0x3F).toNat * 256 + im.b1.toNat := by
  have hhigh : (im.b0 &&& 0x3F).toNat < 2 ^ 6 := Nat.and_lt_two_pow _ (by decide)
  have hlow : im.b1.toNat < 2 ^ 8 := im.b1.isLt
  have hparts : (getPllWord im).toNat = (im.b0 &&& 0x3F).toNat <<< 8 ||| im.b1.toNat := by
    rw [getPllWord]
    simp only [BitVec.toNat_or, BitVec.toNat_shiftLeft, BitVec.toNat_setWidth, Nat.shiftLeft_eq, Config.pllW]
    exact congrArg₂ (· ||| ·) (by omega) (by omega)
  rw [hparts, ← Nat.shiftLeft_add_eq_or_of_lt hlow, Nat.shiftLeft_eq]

theorem dec_eq (w : PllWord) (x : Side) :
    dec w x = (w.toNat : Int) * 8192 + (if x = .high then -225000 else 225000) := by
  cases x
  case high => exact dec_high w
  case low => exact dec_low w

/-- Settles O35: the copied bits are the rule's by definition, and the word's frequency fits 32 bits. -/
theorem loadFrequency : Obligations.LoadFrequency := by
  refine ⟨encodedAs_of_check fun _ => rfl, fun s => ⟨sext32 (dec (getPllWord s.rx) s.side), ?_, ?_⟩⟩
  · exact congrArg Host.Outcome.next (State.returned_eq_ended rfl 0)
  · rw [sext32_dec_toInt, dec_eq, getPllWord_toNat]
    push_cast
    rfl

/-- A frequency operand is its own 32-bit value (30_encoding.md R104). -/
theorem sext32_freqOperand (f : FreqArg) : sext32 (freqOperand f) = f.setWidth 32 :=
  (BitVec.ofInt_natCast 32 f.toNat).trans (BitVec.ofNat_toNat 32 f)

/-- A command that has only made `calls` and raised `bits` since acceptance ends with them, whatever phase its
sequencer was in. -/
theorem State.returned_of_after {s t : State} {calls : List BusEvent} {bits : FaultBits} {val : Val}
    (h : t.inPhase .run = s.accept.after calls bits) : t.returned val = (s.withCalls calls).ended bits val := by
  rw [← State.after_returned, ← h]
  rfl

theorem exec_determineInjectionSide (f : FreqArg) (s : State) :
    exec (.determineInjectionSide f) s = .next ((s.accept.determineSide f.toNat).returned
      (Val.ofBit (s.accept.determineSide f.toNat).side.bit)) := rfl

/-- Settles O36: `determineSide_after` from acceptance to return. -/
theorem determineInjectionSide : Obligations.DetermineInjectionSide := by
  refine ⟨encodedAs_of_check fun _ => rfl, fun f s => ⟨?_, ?_⟩⟩
  · rw [exec_determineInjectionSide, State.determineSide_after, State.after_side, ofBit_side_bit]
    exact congrArg Host.Outcome.next (State.returned_of_after rfl)
  · simp only [encUnwrapped_eq, encNumerator_high, encNumerator_low]
    omega

theorem exec_selectFrequency (f : FreqArg) (m : Bool) (s : State) :
    exec (.selectFrequency f m) s = .next ((s.accept.selectFrequency f.toNat m).returned 0) := rfl

theorem exec_selectChannel (c : ChanArg) (m : Bool) (s : State) :
    exec (.selectChannel c m) s = .next ((s.accept.selectFrequency (channelHz c) m).returned 0) := rfl

/-- Settles O38: `selectFrequency_after` and `selectFrequency_true_after` from acceptance to return. -/
theorem selectFrequency : Obligations.SelectFrequency := by
  refine ⟨encodedAs_of_check fun _ => rfl, fun f s => ?_, fun f s => ?_, fun f => ?_⟩
  · rw [exec_selectFrequency, State.selectFrequency_after, ← sext32_freqOperand]
    exact congrArg Host.Outcome.next (State.returned_of_after rfl)
  · rw [exec_selectFrequency, State.selectFrequency_true_after s.accept f.toNat rfl rfl rfl rfl,
      ← sext32_freqOperand]
    exact congrArg Host.Outcome.next (State.returned_of_after rfl)
  · simp only [encUnwrapped_eq, encNumerator_high, encNumerator_low]
    omega

/-- Every channel's frequency is a frequency operand (44_tuning_search.md R246). -/
theorem freqOperand_channel (c : ChanArg) :
    freqOperand (BitVec.ofNat 28 (47900000 + 200000 * c.toNat)) = channelHz c := by
  have hc := chanArg_lt c
  have hfits : 47900000 + 200000 * c.toNat < 2 ^ 28 := by omega
  have hword : (BitVec.ofNat 28 (47900000 + 200000 * c.toNat)).toNat = 47900000 + 200000 * c.toNat := by
    rw [BitVec.toNat_ofNat, Nat.mod_eq_of_lt hfits]
  have hchannel : channelHz c = 87900000 + ((c.toNat : Int) - 200) * 200000 := rfl
  rw [freqOperand, hword, hchannel]
  push_cast
  omega

/-- Settles O39: both commands select the channel's frequency, which fits 32 bits. -/
theorem selectChannel : Obligations.SelectChannel := by
  refine ⟨encodedAs_of_check fun _ => rfl, fun c m s => ⟨_, exec_selectChannel c m s, ?_, ?_⟩,
    by decide, by decide, by decide, by decide, fun c hc => ?_, by decide, by decide⟩
  · rw [← freqOperand_channel]
    exact exec_selectFrequency _ m s
  · obtain ⟨hlo, hhi⟩ := channelHz_bounds c
    rw [State.returned_freqNom, State.selectFrequency_freqNom, sext32_toInt (by omega) (by omega)]
    rfl
  · have hchannel : channelHz c = 87900000 + ((c.toNat : Int) - 200) * 200000 := rfl
    rw [encUnwrapped_eq, encNumerator_high, hchannel]
    omega

end Sys2Proof.Machine

/-! ## The station search (44_tuning_search.md R250, R251)

A search is its opening, some polls and its close, each in the normal form `State.after`. The poll loop is an
iteration of `pollOnce`, cut off by `ready` or by the count. -/

namespace Sys2Proof.Machine

/-! ### The opening -/

/-- What a search has written when its first poll comes, the primitive calls apart. -/
def State.asked (s : State) (d : Direction) (m : Bool) : State :=
  { s with
    tx := searchImage s.tx d m, muted := if m then true else s.muted, polls := 0, muteDuringSearch := m
    phase := .sPoll }

theorem State.openingCalls_writes (s : State) (d : Direction) (m : Bool) :
    (s.openingCalls d m).countP isWrite = searchLead m := by cases m <;> rfl

theorem State.openingCalls_reads (s : State) (d : Direction) (m : Bool) :
    (s.openingCalls d m).countP isRead = 0 := by cases m <;> rfl

/-- The request for direction and search is written (44_tuning_search.md R251, row S_START). -/
def State.request (s : State) (d : Direction) : State :=
  ((s.inPhase .sStart).writeTxBit searchDirField d.bit).writeTxBit searchModeField true

/-- The search's registers as they are when its first poll comes (10_state.md R36, R46). -/
def State.startPolling (s : State) (m : Bool) : State := { s with polls := 0, muteDuringSearch := m, phase := .sPoll }

theorem State.searchStart_eq (s : State) (d : Direction) (m : Bool) :
    s.searchStart d m = (((if m then (s.inPhase .sMute).muteOn else s).request d).transmit).startPolling m := rfl

theorem State.after_request (s : State) (calls : List BusEvent) (bits : FaultBits) (d : Direction) :
    (s.after calls bits).request d = (s.request d).after calls bits := rfl

theorem State.after_startPolling (s : State) (calls : List BusEvent) (bits : FaultBits) (m : Bool) :
    (s.after calls bits).startPolling m = (s.startPolling m).after calls bits := rfl

/-- The request, from an image that is muted or not. -/
theorem State.request_tx {s : State} {im : Image} {m : Bool}
    (h : s.tx = if m then { im with b0 := im.b0 ||| 0x80 } else im) (d : Direction) :
    (s.request d).tx = searchImage im d m := by
  rw [← searchImage_eq, ← h]
  rfl

theorem State.searchStart_after (s : State) (d : Direction) (m : Bool) :
    s.searchStart d m = (s.asked d m).after (s.openingCalls d m) (s.openingFaults m) := by
  rw [State.searchStart_eq, State.asked]
  cases m
  case false =>
    have hfaults : s.openingFaults false = writeFault (s.writeAnswerAt 0 0) := BitVec.zero_or
    rw [if_neg Bool.false_ne_true, State.transmit_after, State.after_startPolling, hfaults, State.openingCalls,
      ← State.request_tx (s := s) (m := false) rfl]
    rfl
  case true =>
    rw [if_pos rfl, State.muteOn_after, State.after_request, State.transmit_after, State.after_writeAnswerAt,
      State.after_after, State.after_startPolling, State.openingCalls, ← State.request_tx (m := true)
        (s := (s.inPhase .sMute).withMute { s.tx with b0 := s.tx.b0 ||| 0x80 } true) rfl]
    rfl

/-! ### The polls -/

/-- The answers of the next `n` polls. -/
def State.nextPolls (s : State) (n : Nat) : List BusData := (List.range n).map fun j => s.readAnswerAt j j

/-- What polls with the answers `ds` leave, the primitive calls apart. -/
def State.polled (s : State) (ds : List BusData) : State :=
  { s with rx := rxAfterAll s.rx ds, polls := s.polls + ds.length }

@[simp] theorem State.nextPolls_length (s : State) (n : Nat) : (s.nextPolls n).length = n := by
  simp [State.nextPolls]

theorem State.nextPolls_succ (s : State) (n : Nat) : s.nextPolls (n + 1) = s.nextPolls n ++ [s.readAnswerAt n n] := by
  simp [State.nextPolls, List.range_succ]

@[simp] theorem pollCalls_writes (ds : List BusData) : (pollCalls ds).countP isWrite = 0 := by
  induction ds with
  | nil => rfl
  | cons d ds ih => rw [pollCalls, List.flatMap_cons, List.countP_append, readCalls_writes, ← pollCalls, ih]

@[simp] theorem pollCalls_reads (ds : List BusData) : (pollCalls ds).countP isRead = ds.length := by
  induction ds with
  | nil => rfl
  | cons d ds ih =>
    rw [pollCalls, List.flatMap_cons, List.countP_append, readCalls_reads, ← pollCalls, ih, List.length_cons,
      Nat.add_comm]

theorem pollCalls_concat (ds : List BusData) (d : BusData) : pollCalls (ds ++ [d]) = pollCalls ds ++ readCalls d := by
  simp [pollCalls]

theorem readFaults_concat (ds : List BusData) (d : BusData) :
    readFaults (ds ++ [d]) = readFaults ds ||| readFault d := by simp [readFaults]

theorem State.polled_concat (s : State) (ds : List BusData) (d : BusData) :
    s.polled (ds ++ [d]) =
      { s.polled ds with rx := rxAfter (rxAfterAll s.rx ds) d, polls := s.polls + ds.length + 1 } := by
  simp [State.polled, rxAfterAll, Nat.add_assoc]

theorem State.pollOnce_after (s : State) :
    s.pollOnce = ({ s with rx := rxAfter s.rx (s.readAnswerAt 0 0), polls := s.polls + 1 } : State).after
      (readCalls (s.readAnswerAt 0 0)) (readFault (s.readAnswerAt 0 0)) := by
  rw [State.pollOnce_eq, State.receiveStatus_after]
  rfl

/-- Any number of polls, one after the other. -/
theorem State.iterate_pollOnce_after (s : State) (n : Nat) :
    State.pollOnce^[n] s =
      (s.polled (s.nextPolls n)).after (pollCalls (s.nextPolls n)) (readFaults (s.nextPolls n)) := by
  induction n with
  | zero => simp [State.polled, State.nextPolls, State.after, State.withCalls, pollCalls, readFaults, rxAfterAll]
  | succ n ih =>
    have hnext : ((s.polled (s.nextPolls n)).after (pollCalls (s.nextPolls n))
        (readFaults (s.nextPolls n))).readAnswerAt 0 0 = s.readAnswerAt n n := by
      simp only [State.after_readAnswerAt, pollCalls_writes, pollCalls_reads, State.nextPolls_length, Nat.zero_add,
        Nat.add_zero]
      rfl
    rw [Function.iterate_succ_apply', ih, State.pollOnce_after, hnext, State.nextPolls_succ, pollCalls_concat,
      readFaults_concat, State.polled_concat]
    exact State.after_trans rfl

theorem State.iterate_pollOnce_rx (s : State) (n : Nat) :
    (State.pollOnce^[n] s).rx = rxAfterAll s.rx (s.nextPolls n) := by
  rw [State.iterate_pollOnce_after]
  rfl

theorem State.iterate_pollOnce_polls (s : State) (n : Nat) : (State.pollOnce^[n] s).polls = s.polls + n := by
  rw [State.iterate_pollOnce_after]
  exact congrArg (s.polls + ·) (s.nextPolls_length n)

theorem State.iterate_pollOnce_pollLimit (s : State) (n : Nat) : (State.pollOnce^[n] s).pollLimit = s.pollLimit := by
  rw [State.iterate_pollOnce_after]
  rfl

/-! ### The poll loop -/

theorem State.pollLoop_found {s : State} (k : Nat) (hready : s.pollOnce.rx.b0.getLsbD 7 = true) :
    State.pollLoop (k + 1) s = s.pollOnce.searchLatch := by
  rw [State.pollLoop, readReady_eq, if_pos hready]

theorem State.pollLoop_gaveUp {s : State} (k : Nat) (hready : s.pollOnce.rx.b0.getLsbD 7 = false)
    (hlimit : limitReached s.pollOnce.pollLimit s.pollOnce.polls = true) :
    State.pollLoop (k + 1) s = s.pollOnce.searchAbort := by
  rw [State.pollLoop, readReady_eq, hready, if_neg Bool.false_ne_true, if_pos hlimit]

theorem State.pollLoop_pollsOn {s : State} (k : Nat) (hready : s.pollOnce.rx.b0.getLsbD 7 = false)
    (hlimit : limitReached s.pollOnce.pollLimit s.pollOnce.polls = false) :
    State.pollLoop (k + 1) s = State.pollLoop k s.pollOnce := by
  rw [State.pollLoop, readReady_eq, hready, hlimit, if_neg Bool.false_ne_true, if_neg Bool.false_ne_true]

/-- While neither `ready` nor the limit is seen, the loop goes on from the polls made. -/
theorem State.pollLoop_add {s : State} {n : Nat} (k : Nat)
    (hready : ∀ j < n, (rxAfterAll s.rx (s.nextPolls (j + 1))).b0.getLsbD 7 = false)
    (hlimit : ∀ j < n, limitReached s.pollLimit (s.polls + (j + 1)) = false) :
    State.pollLoop (n + k) s = State.pollLoop k (State.pollOnce^[n] s) := by
  induction n generalizing k with
  | zero => rw [Nat.zero_add, Function.iterate_zero_apply]
  | succ n ih =>
    have hone : State.pollOnce (State.pollOnce^[n] s) = State.pollOnce^[n + 1] s :=
      (Function.iterate_succ_apply' _ n s).symm
    have hbefore := ih (k + 1) (fun j hj => hready j (by omega)) (fun j hj => hlimit j (by omega))
    rw [Nat.add_assoc, Nat.add_comm 1 k, hbefore, State.pollLoop_pollsOn k, hone]
    · rw [hone, State.iterate_pollOnce_rx, hready n (by omega)]
    · rw [hone, State.iterate_pollOnce_pollLimit, State.iterate_pollOnce_polls, hlimit n (by omega)]

/-- The loop with `ready` on poll n + 1 and not before. -/
theorem State.pollLoop_finds {s : State} {n : Nat} (k : Nat)
    (hwaits : ∀ j < n, (rxAfterAll s.rx (s.nextPolls (j + 1))).b0.getLsbD 7 = false)
    (hlimit : ∀ j < n, limitReached s.pollLimit (s.polls + (j + 1)) = false)
    (hready : (rxAfterAll s.rx (s.nextPolls (n + 1))).b0.getLsbD 7 = true) :
    State.pollLoop (n + (k + 1)) s = (State.pollOnce^[n + 1] s).searchLatch := by
  rw [State.pollLoop_add (k + 1) hwaits hlimit, State.pollLoop_found, ← Function.iterate_succ_apply' State.pollOnce]
  rw [← Function.iterate_succ_apply' State.pollOnce, State.iterate_pollOnce_rx, hready]

/-- The loop without `ready` in any of its polls, the last of which reaches the limit. -/
theorem State.pollLoop_timesOut {s : State} {n : Nat}
    (hwaits : ∀ j < n + 1, (rxAfterAll s.rx (s.nextPolls (j + 1))).b0.getLsbD 7 = false)
    (hlimit : ∀ j < n, limitReached s.pollLimit (s.polls + (j + 1)) = false)
    (hlast : limitReached s.pollLimit (s.polls + (n + 1)) = true) :
    State.pollLoop (n + 1) s = (State.pollOnce^[n + 1] s).searchAbort := by
  rw [State.pollLoop_add 1 (fun j hj => hwaits j (by omega)) hlimit, State.pollLoop_gaveUp,
    ← Function.iterate_succ_apply' State.pollOnce]
  · rw [← Function.iterate_succ_apply' State.pollOnce, State.iterate_pollOnce_rx, hwaits n (by omega)]
  · rw [← Function.iterate_succ_apply' State.pollOnce, State.iterate_pollOnce_pollLimit,
      State.iterate_pollOnce_polls, hlast]

/-! ### The close -/

theorem State.after_inPhase (s : State) (calls : List BusEvent) (bits : FaultBits) (q : Phase) :
    (s.after calls bits).inPhase q = (s.inPhase q).after calls bits := rfl

theorem State.writeSearchMode_off (s : State) :
    s.writeTxBit searchModeField false = s.withMute (searchEnded s.tx) s.muted := by
  rw [← writeSearchMode_false]
  rfl

/-- `s` as a search leaves it, TX being `last` before `search_mode` is cleared, the primitive calls apart. -/
def State.closed (s : State) (last : Image) : State :=
  s.withMute (searchLeft last s.muteDuringSearch) (if s.muteDuringSearch then false else s.muted)

theorem State.searchClose_after (s : State) :
    s.searchClose = ((s.closed s.tx).after (s.closingCalls s.muteDuringSearch s.tx 0 0)
      (s.closingFaults s.muteDuringSearch 0 0)).returned (Val.ofBit s.blf) := by
  rw [State.searchClose, State.closed]
  simp only [State.writeSearchMode_off, State.transmit_after]
  cases hm : s.muteDuringSearch
  case false =>
    have hfaults : s.closingFaults false 0 0 = writeFault (s.writeAnswerAt 0 0) := BitVec.or_zero
    rw [if_neg Bool.false_ne_true, hfaults]
    rfl
  case true =>
    rw [if_pos rfl, State.after_inPhase, State.muteOff_after, State.after_withMute, State.after_writeAnswerAt,
      State.after_after, State.after_tx, ← searchEnded_unmuted, State.closingCalls, ← searchEnded_unmuted]
    rfl

/-- The close, seen from before some earlier calls. -/
theorem State.after_searchClose (s : State) (calls : List BusEvent) (bits : FaultBits) :
    (s.after calls bits).searchClose =
      ((s.closed s.tx).after
        (calls ++ s.closingCalls s.muteDuringSearch s.tx (calls.countP isWrite + calls.countP isRead)
          (calls.countP isWrite))
        (bits ||| s.closingFaults s.muteDuringSearch (calls.countP isWrite + calls.countP isRead)
          (calls.countP isWrite))).returned (Val.ofBit s.blf) := by
  have hmute : (s.after calls bits).muteDuringSearch = s.muteDuringSearch := rfl
  rw [State.searchClose_after, hmute, State.after_tx, State.closingCalls, State.closingFaults,
    State.after_writeAnswerAt, State.after_writeAnswerAt]
  exact congrArg (State.returned · _) (State.after_trans rfl)

/-- Row S_LATCH up to the close: the band-limit flag, the received word (44_tuning_search.md R251). -/
def State.latched (s : State) : State :=
  { s with
    tx := loaded s.rx s.tx, freqNom := sext32 (dec (getPllWord s.rx) s.side), blf := s.rx.b0.getLsbD 6
    phase := .sLatch }

theorem State.searchLatch_eq (s : State) : s.searchLatch = s.latched.searchClose := by
  rw [State.searchLatch, readBandLimit_eq]
  rfl

theorem State.after_latched (s : State) (calls : List BusEvent) (bits : FaultBits) :
    (s.after calls bits).latched = s.latched.after calls bits := rfl

/-- Row S_ABORT up to the close, the raised fault apart (44_tuning_search.md R251). -/
def State.aborted (s : State) : State := { s with blf := false, phase := .sAbort }

theorem State.after_searchAbort (s : State) (calls : List BusEvent) (bits : FaultBits) :
    (s.after calls bits).searchAbort = (s.aborted.after calls (bits ||| 0b00100)).searchClose := by
  rw [State.searchAbort, State.after, State.after, ← BitVec.or_assoc, ← BitVec.or_assoc]
  rfl

/-! ### A whole search -/

theorem State.searchStart_nextPolls (s : State) (d : Direction) (m : Bool) (n : Nat) :
    (s.searchStart d m).nextPolls n = s.pollAnswers m n := by
  rw [State.searchStart_after, State.nextPolls, State.pollAnswers]
  simp only [State.after_readAnswerAt, State.openingCalls_writes, State.openingCalls_reads, Nat.zero_add,
    Nat.add_zero]
  rfl

theorem State.pollAnswers_length (s : State) (m : Bool) (n : Nat) : (s.pollAnswers m n).length = n := by
  simp [State.pollAnswers]

/-- A search that has opened and made `n` polls. -/
def State.searching (s : State) (d : Direction) (m : Bool) (n : Nat) : State :=
  { s.asked d m with rx := rxAfterAll s.rx (s.pollAnswers m n), polls := n }

theorem State.asked_polled (s : State) (d : Direction) (m : Bool) (n : Nat) :
    (s.asked d m).polled (s.pollAnswers m n) = s.searching d m n := by
  rw [State.polled, State.pollAnswers_length, show (s.asked d m).polls + n = n from Nat.zero_add n]
  rfl

theorem State.searchStart_polled (s : State) (d : Direction) (m : Bool) (n : Nat) :
    State.pollOnce^[n] (s.searchStart d m) =
      (s.searching d m n).after (s.openingCalls d m ++ pollCalls (s.pollAnswers m n))
        (s.openingFaults m ||| readFaults (s.pollAnswers m n)) := by
  rw [State.iterate_pollOnce_after, State.searchStart_nextPolls, State.searchStart_after,
    ← State.asked_polled]
  exact State.after_trans rfl

theorem State.searchCalls_writes (s : State) (d : Direction) (m : Bool) (n : Nat) :
    (s.openingCalls d m ++ pollCalls (s.pollAnswers m n)).countP isWrite = searchLead m := by
  rw [List.countP_append, State.openingCalls_writes, pollCalls_writes, Nat.add_zero]

theorem State.searchCalls_reads (s : State) (d : Direction) (m : Bool) (n : Nat) :
    (s.openingCalls d m ++ pollCalls (s.pollAnswers m n)).countP isRead = (s.pollAnswers m n).length := by
  rw [List.countP_append, State.openingCalls_reads, pollCalls_reads, Nat.zero_add]

/-- A search that finds a station on poll `n`. -/
theorem State.searchLatch_after (s : State) (d : Direction) (m : Bool) (n : Nat) :
    (State.pollOnce^[n] (s.searchStart d m)).searchLatch =
      (((s.searching d m n).latched.closed (s.searching d m n).latched.tx).after
        (s.searchCalls d m (s.pollAnswers m n) (s.searching d m n).latched.tx)
        (s.searchFaults m (s.pollAnswers m n))).returned (Val.ofBit (s.searching d m n).latched.blf) := by
  rw [State.searchStart_polled, State.searchLatch_eq, State.after_latched, State.after_searchClose,
    State.searchCalls_writes, State.searchCalls_reads, List.append_assoc]
  rfl

theorem faults_right_comm (a b c : FaultBits) : a ||| b ||| c = a ||| c ||| b := by
  rw [BitVec.or_assoc, BitVec.or_comm b c, BitVec.or_assoc]

/-- A search that gives up on poll `n`. -/
theorem State.searchAbort_after (s : State) (d : Direction) (m : Bool) (n : Nat) :
    (State.pollOnce^[n] (s.searchStart d m)).searchAbort =
      (((s.searching d m n).aborted.closed (searchImage s.tx d m)).after
        (s.searchCalls d m (s.pollAnswers m n) (searchImage s.tx d m))
        (s.searchFaults m (s.pollAnswers m n) ||| 0b00100)).returned 0 := by
  rw [State.searchStart_polled, State.after_searchAbort, State.after_searchClose, State.searchCalls_writes,
    State.searchCalls_reads, List.append_assoc, State.searchFaults,
    faults_right_comm _ (s.closingFaults _ _ _)]
  rfl

/-! ### The statements -/

theorem exec_search (d : Direction) (m : Bool) (s : State) :
    exec (.search d m) s = .next (s.accept.searchProc d m) := rfl

theorem State.searchStart_pollLimit (s : State) (d : Direction) (m : Bool) :
    (s.searchStart d m).pollLimit = s.pollLimit := by rw [State.pollLimit, State.searchStart_params, State.pollLimit]

theorem State.searchStart_rx (s : State) (d : Direction) (m : Bool) : (s.searchStart d m).rx = s.rx := by
  rw [State.searchStart_after]
  rfl

/-- A limit of `extra + 1` polls is reached by that many and no others. -/
theorem limitReached_atMost (extra n : Nat) : limitReached (.atMost extra) n = true ↔ n = extra + 1 := by
  simp [limitReached]

/-- A search with `ready` on poll n + 1 of its first step, and not before. -/
theorem State.searchProc_finds {s : State} {d : Direction} {m : Bool} {n : Nat}
    (hfinite : ∀ extra, s.pollLimit = .atMost extra → n ≤ extra) (hinf : s.pollLimit = .inf → n = 0)
    (hwaits : ∀ j < n, (rxAfterAll s.rx (s.pollAnswers m (j + 1))).b0.getLsbD 7 = false)
    (hready : (rxAfterAll s.rx (s.pollAnswers m (n + 1))).b0.getLsbD 7 = true) :
    s.searchProc d m = (State.pollOnce^[n + 1] (s.searchStart d m)).searchLatch := by
  have hlimit : ∀ j < n, limitReached s.pollLimit (0 + (j + 1)) = false := by
    intro j hj
    cases hlim : s.pollLimit with
    | inf => rfl
    | atMost extra =>
      have hn := hfinite extra hlim
      rw [← Bool.not_eq_true, limitReached_atMost]
      omega
  obtain ⟨k, hk⟩ : ∃ k, pollsPerStep s.pollLimit = n + (k + 1) := by
    cases hlim : s.pollLimit with
    | inf => exact ⟨0, by rw [hinf hlim]; rfl⟩
    | atMost extra => exact ⟨extra - n, by have := hfinite extra hlim; rw [pollsPerStep]; omega⟩
  rw [State.searchProc, State.searchPolls, State.searchStart_pollLimit, hk]
  apply State.pollLoop_finds <;>
    simpa only [State.searchStart_rx, State.searchStart_nextPolls, State.searchStart_pollLimit]

/-- A search without `ready` in any of its polls. -/
theorem State.searchProc_timesOut {s : State} {d : Direction} {m : Bool} {extra : Nat}
    (hlim : s.pollLimit = .atMost extra)
    (hwaits : ∀ j < extra + 1, (rxAfterAll s.rx (s.pollAnswers m (j + 1))).b0.getLsbD 7 = false) :
    s.searchProc d m = (State.pollOnce^[extra + 1] (s.searchStart d m)).searchAbort := by
  have hpolls : (s.searchStart d m).polls = 0 := rfl
  rw [State.searchProc, State.searchPolls, State.searchStart_pollLimit, hlim, pollsPerStep]
  apply State.pollLoop_timesOut <;>
    simp only [State.searchStart_rx, State.searchStart_nextPolls, State.searchStart_pollLimit, hlim, hpolls]
  · exact hwaits
  · intro j hj
    rw [← Bool.not_eq_true, limitReached_atMost]
    omega
  · rw [limitReached_atMost, Nat.zero_add]

/-- Settles O40: the poll loop finds on poll n + 1, and the search's normal form `searchLatch_after`. -/
theorem searchFinds : Obligations.SearchFinds := by
  intro d m s n hfinite hinf hwaits hready
  rw [exec_search, State.searchProc_finds (s := s.accept) hfinite hinf hwaits hready, State.searchLatch_after]
  exact congrArg Host.Outcome.next (State.returned_of_after (by cases m <;> rfl))

/-- Settles O42: the poll loop gives up, and the search's normal form `searchAbort_after`. -/
theorem searchTimesOut : Obligations.SearchTimesOut := by
  intro d m s extra hlim hwaits
  rw [exec_search, State.searchProc_timesOut (s := s.accept) hlim fun j hj => hwaits j (by omega),
    State.searchAbort_after]
  exact congrArg Host.Outcome.next (State.returned_of_after (by cases m <;> rfl))

/-- Settles O41: one more poll, then the latch and the close. -/
theorem searchPollFinds : Obligations.SearchPollFinds := by
  intro s rest hp hh d rx m last bits hready
  have hpoll : s.searchPolls = s.pollOnce.searchLatch := by
    obtain ⟨k, hk⟩ : ∃ k, pollsPerStep s.pollLimit = k + 1 := by
      cases s.pollLimit with
      | inf => exact ⟨0, rfl⟩
      | atMost extra => exact ⟨extra, rfl⟩
    rw [State.searchPolls, hk, State.pollLoop_found k]
    rwa [State.pollOnce_after]
  rw [step_polling hp hh, hpoll, State.pollOnce_after, State.searchLatch_eq, State.after_latched,
    State.after_searchClose]
  rfl

theorem direction_ofBit_eq_ite (v : Bool) : Direction.ofBit v = if v then .up else .down := by cases v <;> rfl

/-- With a finite MAX_POLLS a search sees `ready` on one of its polls first, or on none. -/
theorem first_ready_or_none (s : State) (m : Bool) (extra : Nat) :
    (∃ n ≤ extra, (∀ j < n, (rxAfterAll s.rx (s.pollAnswers m (j + 1))).b0.getLsbD 7 = false) ∧
      (rxAfterAll s.rx (s.pollAnswers m (n + 1))).b0.getLsbD 7 = true) ∨
    ∀ j ≤ extra, (rxAfterAll s.rx (s.pollAnswers m (j + 1))).b0.getLsbD 7 = false := by
  by_cases h : ∃ n, n ≤ extra ∧ (rxAfterAll s.rx (s.pollAnswers m (n + 1))).b0.getLsbD 7 = true
  · obtain ⟨hle, hready⟩ := Nat.find_spec h
    refine .inl ⟨Nat.find h, hle, fun j hj => ?_, hready⟩
    simpa [show j ≤ extra by omega] using Nat.find_min h hj
  · exact .inr fun j hj => by simpa [hj] using not_exists.mp h j

theorem State.closingCalls_writes (s : State) (m : Bool) (last : Image) (calls writes : Nat) :
    (s.closingCalls m last calls writes).countP isWrite = if m then 2 else 1 := by cases m <;> rfl

theorem State.closingCalls_reads (s : State) (m : Bool) (last : Image) (calls writes : Nat) :
    (s.closingCalls m last calls writes).countP isRead = 0 := by cases m <;> rfl

/-- The transactions of a whole search (44_tuning_search.md R251). -/
theorem State.searchCalls_count (s : State) (d : Direction) (m : Bool) (n : Nat) (last : Image) :
    (s.searchCalls d m (s.pollAnswers m n) last).countP isWrite +
      (s.searchCalls d m (s.pollAnswers m n) last).countP isRead = (if m then 4 else 2) + n := by
  simp only [State.searchCalls, List.countP_append, State.openingCalls_writes, State.openingCalls_reads,
    State.closingCalls_writes, State.closingCalls_reads, pollCalls_writes, pollCalls_reads, State.pollAnswers_length]
  cases m
  case false => simp only [searchLead, Bool.false_eq_true, if_false]; omega
  case true => simp only [searchLead, if_true]; omega

theorem searchLeft_b0 (im : Image) (m : Bool) : (searchLeft im m).b0.getLsbD 6 = false := by
  cases m <;> simp [searchLeft]

theorem searchImage_b2 (im : Image) (d : Direction) (m : Bool) :
    (searchImage im d m).b2 &&& 0x7F = im.b2 &&& 0x7F ∧ (searchImage im d m).b2.getLsbD 7 = (d == .up) := by
  have hdir : (if d = .up then 0x80 else 0x00) &&& (0x7F : Byte) = 0 := by cases d <;> rfl
  refine ⟨masked_or_and_mask hdir im.b2, ?_⟩
  cases d <;> simp [searchImage]

/-- Settles O43: either way a search with a finite MAX_POLLS goes, `searchFinds` or `searchTimesOut`, it has returned
within its bound. -/
theorem searchReturns : Obligations.SearchReturns := by
  refine ⟨encodedAs_of_check fun arg => ?_, fun d m s extra hlim => ?_⟩
  · rw [← direction_ofBit_eq_ite]
    rfl
  obtain ⟨hkept, hdir⟩ := searchImage_b2 s.tx d m
  have hbound {n : Nat} (hn : n ≤ extra) (last : Image) :
      s.env.busCalls + (s.searchCalls d m (s.pollAnswers m (n + 1)) last).countP isWrite +
        (s.searchCalls d m (s.pollAnswers m (n + 1)) last).countP isRead ≤
      s.env.busCalls + (if m then 4 else 2) + (extra + 1) := by
    rw [Nat.add_assoc, State.searchCalls_count]
    omega
  obtain ⟨n, hn, hwaits, hready⟩ | hwaits := first_ready_or_none s m extra
  · refine ⟨_, searchFinds d m s n (fun e he => ?_) (fun hinf => ?_) hwaits hready, rfl, rfl, hbound hn _, rfl,
      hkept, hdir, searchLeft_b0 _ m⟩
    · obtain rfl : extra = e := by simpa [hlim] using he
      exact hn
    · rw [hlim] at hinf; cases hinf
  · refine ⟨_, searchTimesOut d m s extra hlim hwaits, rfl, rfl, hbound le_rfl _, rfl, hkept, hdir,
      searchLeft_b0 _ m⟩

end Sys2Proof.Machine

/-! ## Searching on from a frequency (44_tuning_search.md R256, R258, R259)

The faults a command has gathered before a search change nothing of it but the bits it returns. -/

namespace Sys2Proof.Machine

/-! ### Faults gathered before -/

/-- `s` with the fault bits `bits` of an earlier part of its command in `res`. -/
def State.gathered (s : State) (bits : FaultBits) : State :=
  { s with res := bits ||| s.res, result := s.result.map fun r => { r with res := bits ||| r.res } }

section
variable (s : State) (bits : FaultBits)

theorem State.gathered_after (calls : List BusEvent) (more : FaultBits) :
    (s.gathered bits).after calls more = (s.after calls more).gathered bits := by
  simp only [State.gathered, State.after, State.withCalls, BitVec.or_assoc]

theorem State.gathered_raise (flag : FaultFlag) : (s.gathered bits).raise flag = (s.raise flag).gathered bits := by
  simp only [State.gathered, State.raise, BitVec.or_assoc]

theorem State.gathered_pollOnce : (s.gathered bits).pollOnce = s.pollOnce.gathered bits := by
  rw [State.pollOnce_after, State.pollOnce_after, ← State.gathered_after]
  rfl

theorem State.gathered_searchStart (d : Direction) (m : Bool) :
    (s.gathered bits).searchStart d m = (s.searchStart d m).gathered bits := by
  rw [State.searchStart_after, State.searchStart_after, ← State.gathered_after]
  rfl

theorem State.gathered_searchClose : (s.gathered bits).searchClose = s.searchClose.gathered bits := by
  have hclosed (last : Image) : (s.gathered bits).closed last = (s.closed last).gathered bits := rfl
  rw [State.searchClose_after, State.searchClose_after, hclosed, State.gathered_after]
  rfl

theorem State.gathered_searchLatch : (s.gathered bits).searchLatch = s.searchLatch.gathered bits := by
  rw [State.searchLatch_eq, State.searchLatch_eq, ← State.gathered_searchClose]
  rfl

theorem State.gathered_searchAbort : (s.gathered bits).searchAbort = s.searchAbort.gathered bits := by
  have hphase : (s.gathered bits).inPhase .sAbort = (s.inPhase .sAbort).gathered bits := rfl
  rw [State.searchAbort, State.searchAbort, hphase, State.gathered_raise, ← State.gathered_searchClose]
  rfl

end

theorem State.gathered_pollLoop (n : Nat) (s : State) (bits : FaultBits) :
    State.pollLoop n (s.gathered bits) = (State.pollLoop n s).gathered bits := by
  induction n generalizing s with
  | zero => rfl
  | succ n ih =>
    rw [State.pollLoop, State.pollLoop, State.gathered_pollOnce, State.gathered_searchLatch,
      State.gathered_searchAbort, ih, apply_ite (State.gathered · bits), apply_ite (State.gathered · bits)]
    rfl

theorem State.gathered_searchProc (s : State) (bits : FaultBits) (d : Direction) (m : Bool) :
    (s.gathered bits).searchProc d m = (s.searchProc d m).gathered bits := by
  rw [State.searchProc, State.searchProc, State.gathered_searchStart, State.searchPolls, State.searchPolls,
    ← State.gathered_pollLoop]
  rfl

/-! ### The three commands -/

theorem exec_searchFrom (f : FreqArg) (m : Bool) (s : State) :
    exec (.searchFrom f m) s = .next (s.accept.searchFromProc f.toNat m) := rfl

/-- A command that runs, as one accepted after its return, with its own faults gathered before. -/
theorem State.eq_returned_accept_gathered {t : State} (hphase : t.phase = .run) (hresult : t.result = none)
    (val : Val) : t = (t.returned val).accept.gathered t.res := by
  have hres : t.res ||| (0 : FaultBits) = t.res := BitVec.or_zero
  calc t = { t with phase := .run, res := t.res ||| 0, result := none } := by rw [hres, ← hphase, ← hresult]
    _ = (t.returned val).accept.gathered t.res := rfl

theorem State.accept_selectFrequency_phase (s : State) (f : Int) :
    (s.accept.selectFrequency f false).phase = .run := by
  rw [State.selectFrequency_after]
  rfl

/-- The nudge in the direction a bit names (44_tuning_search.md R256). -/
theorem nudgedHz_ofBit (up : Bool) (f : Int) :
    nudgedHz (Direction.ofBit up) f = if up then f + 100000 else f - 100000 := by cases up <;> rfl

/-- SEARCH_FROM in its three parts: the selection, the nudge, and a search in the direction TX then holds. -/
theorem State.searchFromProc_eq {s sel : State} {f : Int} (h : s.selectFrequency f false = sel) (m : Bool) :
    s.searchFromProc f m =
      (sel.tuneWord (if sel.tx.b2.getLsbD 7 then f + 100000 else f - 100000)).searchProc
        (if sel.tx.b2.getLsbD 7 then .up else .down) m := by
  rw [← nudgedHz_ofBit, ← direction_ofBit_eq_ite, ← readSearchDir_eq, ← h]
  rfl

/-- The search of an accepted SEARCH_FROM is the search a SEARCH would make of what the selection returns. -/
theorem State.accept_searchFromProc {s sel : State} {f : Int} (h : s.accept.selectFrequency f false = sel)
    (m : Bool) :
    s.accept.searchFromProc f m =
      (((sel.returned 0).tuneWord (if sel.tx.b2.getLsbD 7 then f + 100000 else f - 100000)).accept.searchProc
        (if sel.tx.b2.getLsbD 7 then .up else .down) m).gathered sel.res := by
  have hsel : sel = (sel.returned 0).accept.gathered sel.res := by
    subst h
    exact State.eq_returned_accept_gathered (s.accept_selectFrequency_phase f) (by simp) 0
  have htuned (g : Int) : sel.tuneWord g = ((sel.returned 0).tuneWord g).accept.gathered sel.res :=
    congrArg (State.tuneWord · g) hsel
  rw [State.searchFromProc_eq h, htuned, State.gathered_searchProc]

/-- 100000 Hz are 12 or 13 PLL steps, the step across the rounding being the thirteenth (44_tuning_search.md R256). -/
theorem encUnwrapped_nudge (g : Int) (x : Side) :
    encUnwrapped (g + 100000) x - encUnwrapped g x = 12 ∨ encUnwrapped (g + 100000) x - encUnwrapped g x = 13 := by
  rw [encUnwrapped_eq, encUnwrapped_eq, encNumerator_add]
  omega

/-- Settles O46: the search runs from the selection's state, whose faults are gathered into its own. -/
theorem searchFrom : Obligations.SearchFrom := by
  refine ⟨encodedAs_of_check fun _ => rfl, fun f m s =>
    ⟨_, _, exec_selectFrequency f false s, exec_search _ m _, ?_, fun g x => ⟨encUnwrapped_nudge g x, ?_⟩⟩⟩
  · rw [exec_searchFrom, State.accept_searchFromProc rfl]
    rfl
  · have h := encUnwrapped_nudge (g - 100000) x
    rwa [Int.sub_add_cancel] at h

theorem exec_searchFromBeginning (m : Bool) (s : State) : exec (.searchFromBeginning m) s =
    .next ((s.accept.writeTxBit searchDirField true).searchFromProc 87000000 m) := rfl

theorem exec_searchFromEnd (m : Bool) (s : State) : exec (.searchFromEnd m) s =
    .next ((s.accept.writeTxBit searchDirField false).searchFromProc 108000000 m) := rfl

/-- Settles O47: the direction bit is fixed before or after acceptance, it is the same state. -/
theorem searchFromEnds : Obligations.SearchFromEnds := by
  refine ⟨⟨encodedAs_of_check fun _ => rfl, fun m s => ⟨_, exec_searchFromBeginning m s, ?_⟩⟩,
    ⟨encodedAs_of_check fun _ => rfl, fun m s => ⟨_, exec_searchFromEnd m s, ?_⟩⟩⟩
  · have hdir : s.accept.writeTxBit searchDirField true =
        ({ s with tx := { s.tx with b2 := s.tx.b2 ||| 0x80 } } : State).accept :=
      congrArg (fun tx => ({ s with tx := tx } : State).accept) (writeSearchDir_true s.tx)
    rw [hdir]
    exact exec_searchFrom 87000000 m _
  · have hdir : s.accept.writeTxBit searchDirField false =
        ({ s with tx := { s.tx with b2 := s.tx.b2 &&& 0x7F } } : State).accept :=
      congrArg (fun tx => ({ s with tx := tx } : State).accept) (writeSearchDir_false s.tx)
    rw [hdir]
    exact exec_searchFrom 108000000 m _

end Sys2Proof.Machine

/-! ## The bus calls of every command (44_tuning_search.md R263)

How many writes and reads, each with its delay, lead from one environment to another. The procedures' normal forms
give their counts; what a resting search has made and what it owes add up to what its command makes in all. -/

namespace Sys2Proof.Machine

/-- `calls` are that many writes and reads, and as many delays. -/
structure Counted (calls : List BusEvent) (w r : Nat) : Prop where
  writes : calls.countP isWrite = w
  reads : calls.countP isRead = r
  length : calls.length = 2 * (w + r)

theorem Counted.append {c c' : List BusEvent} {w r w' r' : Nat} (h : Counted c w r) (h' : Counted c' w' r') :
    Counted (c ++ c') (w + w') (r + r') where
  writes := by rw [List.countP_append, h.writes, h'.writes]
  reads := by rw [List.countP_append, h.reads, h'.reads]
  length := by rw [List.length_append, h.length, h'.length]; omega

theorem State.openingCalls_counted (s : State) (d : Direction) (m : Bool) :
    Counted (s.openingCalls d m) (searchLead m) 0 :=
  ⟨s.openingCalls_writes d m, s.openingCalls_reads d m, by cases m <;> rfl⟩

theorem State.closingCalls_counted (s : State) (m : Bool) (last : Image) (calls writes : Nat) :
    Counted (s.closingCalls m last calls writes) (if m then 2 else 1) 0 :=
  ⟨s.closingCalls_writes m last calls writes, s.closingCalls_reads m last calls writes, by cases m <;> rfl⟩

/-- From the environment `e` to `e'` that many writes and reads were made. -/
def Env.Made (e e' : Env) (writes reads : Nat) : Prop :=
  ∃ calls, e'.trace = e.trace ++ calls ∧ Counted calls writes reads

theorem Env.Made.refl (e : Env) : e.Made e 0 0 := ⟨[], by simp, rfl, rfl, rfl⟩

theorem Env.Made.trans {e e' e'' : Env} {w r w' r' : Nat} (h : e.Made e' w r) (h' : e'.Made e'' w' r') :
    e.Made e'' (w + w') (r + r') := by
  obtain ⟨calls, htrace, hcalls⟩ := h
  obtain ⟨calls', htrace', hcalls'⟩ := h'
  exact ⟨calls ++ calls', by rw [htrace', htrace, List.append_assoc], hcalls.append hcalls'⟩

/-- The calls made are what `newCalls` reads off the two traces. -/
theorem Env.Made.newCalls {s t : State} {writes reads : Nat} (h : s.env.Made t.env writes reads) :
    Counted (newCalls s t) writes reads := by
  obtain ⟨calls, htrace, hcalls⟩ := h
  have hnew : Machine.newCalls s t = calls := by rw [Machine.newCalls, htrace, List.drop_left]
  rwa [hnew]

section
variable {e : Env} {t : State} {w r : Nat}

/-! ### The procedures -/

/-- A procedure in normal form adds its calls. -/
theorem Env.Made.after {u : State} {calls : List BusEvent} {bits : FaultBits} {w' r' : Nat}
    (h : e.Made t.env w r) (hcalls : Counted calls w' r') (hu : u.env = t.env := by rfl) :
    e.Made (u.after calls bits).env (w + w') (r + r') := h.trans ⟨calls, by rw [← hu]; rfl, hcalls⟩

theorem Env.Made.transmit (h : e.Made t.env w r) : e.Made t.transmit.env (w + 1) r := by
  rw [State.transmit_after]
  exact h.after ⟨rfl, rfl, rfl⟩

theorem Env.Made.receiveStatus (h : e.Made t.env w r) : e.Made t.receiveStatus.env w (r + 1) := by
  rw [State.receiveStatus_after]
  exact h.after ⟨rfl, rfl, rfl⟩

theorem Env.Made.toggle {m : Mirror} (h : e.Made t.env w r) : e.Made (t.toggle m).env (w + 1) r :=
  Env.Made.transmit (t := t.writeMirror m _) (by rwa [State.writeMirror_env])

theorem Env.Made.determineSide {f : Int} (h : e.Made t.env w r) :
    e.Made (t.determineSide f).env (w + 2) (r + 2) := by
  rw [State.determineSide_after]
  exact h.after ⟨rfl, rfl, rfl⟩

theorem Env.Made.selectFrequency {f : Int} {m : Bool} (h : e.Made t.env w r) :
    e.Made (t.selectFrequency f m).env (w + if m then 5 else 3) (r + 2) := by
  cases m
  case false =>
    rw [State.selectFrequency_after]
    exact h.after ⟨rfl, rfl, rfl⟩
  case true =>
    rw [State.selectFrequency_true_after t f rfl rfl rfl rfl]
    exact h.after ⟨rfl, rfl, rfl⟩

/-! ### Searching -/

theorem Env.Made.searchStart {d : Direction} {m : Bool} (h : e.Made t.env w r) :
    e.Made (t.searchStart d m).env (w + searchLead m) r := by
  rw [State.searchStart_after]
  exact h.after (u := t.asked d m) (t.openingCalls_counted d m)

theorem Env.Made.pollOnce (h : e.Made t.env w r) : e.Made t.pollOnce.env w (r + 1) := by
  rw [State.pollOnce_eq]
  exact h.receiveStatus

theorem Env.Made.searchClose (h : e.Made t.env w r) :
    e.Made t.searchClose.env (w + if t.muteDuringSearch then 2 else 1) r := by
  rw [State.searchClose_after, State.returned_env]
  exact h.after (u := t.closed t.tx) (t.closingCalls_counted _ _ _ _)

end

theorem State.searchClose_polls (s : State) : s.searchClose.polls = s.polls := by
  rw [State.searchClose_after]
  rfl

theorem State.owedWrites_of_sPoll {s : State} (h : s.phase = .sPoll) :
    s.owedWrites = if s.muteDuringSearch then 2 else 1 := if_pos h

theorem State.owedWrites_of_idle {s : State} (h : s.phase = .idle) : s.owedWrites = 0 := by
  rw [State.owedWrites, h]
  rfl

/-- From the environment `e` to the state `t` that many reads were made, and that many writes were made or are
owed. -/
def Env.Accounts (e : Env) (t : State) (writes reads : Nat) : Prop :=
  ∃ w, e.Made t.env w reads ∧ w + t.owedWrites = writes

theorem Env.Made.accounts {e : Env} {t : State} {w r : Nat} (h : e.Made t.env w r) (ht : t.phase = .idle) :
    e.Accounts t w r := ⟨w, h, by rw [State.owedWrites_of_idle ht, Nat.add_zero]⟩

theorem Env.Made.trans_accounts {e e' : Env} {t : State} {w r w' r' : Nat} (h : e.Made e' w r)
    (h' : e'.Accounts t w' r') : e.Accounts t (w + w') (r + r') := by
  obtain ⟨made, hmade, hw⟩ := h'
  exact ⟨w + made, h.trans hmade, by rw [Nat.add_assoc, hw]⟩

theorem Env.Accounts.newCalls {s t : State} {writes reads : Nat} (h : s.env.Accounts t writes reads) :
    (newCalls s t).countP isWrite + t.owedWrites = writes ∧ (newCalls s t).countP isRead = reads ∧
      (newCalls s t).length = 2 * ((newCalls s t).countP isWrite + (newCalls s t).countP isRead) := by
  obtain ⟨w, made, hw⟩ := h
  obtain ⟨hwrites, hreads, hlength⟩ := made.newCalls
  exact ⟨by rw [hwrites, hw], hreads, by rw [hwrites, hreads, hlength]⟩

/-- From `s`, where a search polls, to `t` the search has made `p` polls; the writes it owed in `s` it has made or
still owes. -/
structure PollsMade (s t : State) (p : Nat) : Prop where
  calls : s.env.Accounts t s.owedWrites p
  polls : t.polls = s.polls + p

/-- One poll, and then the close. -/
theorem PollsMade.closed {s u : State} (hp : s.phase = .sPoll) (henv : u.env = s.pollOnce.env)
    (hpolls : u.polls = s.pollOnce.polls) (hmute : u.muteDuringSearch = s.muteDuringSearch) :
    PollsMade s u.searchClose 1 where
  calls := by
    have made : s.env.Made u.env 0 1 := henv ▸ (Env.Made.refl s.env).pollOnce
    have howed : s.owedWrites = 0 + if u.muteDuringSearch then 2 else 1 := by
      rw [State.owedWrites_of_sPoll hp, hmute, Nat.zero_add]
    exact howed ▸ made.searchClose.accounts u.searchClose_phase
  polls := by rw [State.searchClose_polls, hpolls, State.pollOnce_eq]

/-- One poll, and then what leads on from it. -/
theorem PollsMade.step {s t : State} {p : Nat} (h : PollsMade s.pollOnce t p) : PollsMade s t (p + 1) where
  calls := by
    have howed : s.owedWrites = 0 + s.pollOnce.owedWrites := by simp [State.owedWrites, State.pollOnce]
    rw [howed, Nat.add_comm p 1]
    exact (Env.Made.refl s.env).pollOnce.trans_accounts h.calls
  polls := by
    have hone : s.pollOnce.polls = s.polls + 1 := by rw [State.pollOnce_eq]
    rw [h.polls, hone, Nat.add_assoc, Nat.add_comm 1 p]

/-- The loop makes a poll if it may, and at most `n`. -/
theorem State.pollLoop_pollsMade (n : Nat) (s : State) (hp : s.phase = .sPoll) :
    ∃ p ≤ n, (0 < n → 0 < p) ∧ PollsMade s (State.pollLoop n s) p := by
  induction n generalizing s with
  | zero => exact ⟨0, le_rfl, id, ⟨0, .refl _, Nat.zero_add _⟩, rfl⟩
  | succ n ih =>
    obtain ⟨-, found⟩ | ⟨-, -, gaveUp⟩ | ⟨-, -, pollsOn⟩ := State.pollLoop_succ_cases n s
    · rw [found, State.searchLatch_eq]
      exact ⟨1, by omega, by omega, .closed hp rfl rfl (by simp [State.latched, State.pollOnce])⟩
    · rw [gaveUp, State.searchAbort]
      exact ⟨1, by omega, by omega, .closed hp rfl rfl (by simp [State.pollOnce])⟩
    · rw [pollsOn]
      obtain ⟨p, hn, -, made⟩ := ih s.pollOnce (by simp [State.pollOnce, hp])
      exact ⟨p + 1, by omega, by omega, made.step⟩

theorem pollsPerStep_pos (limit : PollLimit) : 0 < pollsPerStep limit := by
  cases limit
  case inf => exact Nat.one_pos
  case atMost extra => exact Nat.succ_pos extra

/-- A step of a search makes a poll, and within a finite MAX_POLLS at most that many. -/
theorem State.searchPolls_pollsMade {s : State} (hp : s.phase = .sPoll) :
    ∃ p, 1 ≤ p ∧ p ≤ pollsPerStep s.pollLimit ∧ PollsMade s s.searchPolls p := by
  obtain ⟨p, hle, hpos, made⟩ := s.pollLoop_pollsMade (pollsPerStep s.pollLimit) hp
  exact ⟨p, hpos (pollsPerStep_pos _), hle, made⟩

/-- A SEARCH makes four writes with m = 1 and two without, and as many reads as polls. -/
theorem Env.Made.searchProc {e : Env} {t : State} {w r : Nat} (h : e.Made t.env w r) (d : Direction) (m : Bool) :
    ∃ p, 1 ≤ p ∧ p ≤ pollsPerStep t.pollLimit ∧ (t.searchProc d m).polls = p ∧
      e.Accounts (t.searchProc d m) (w + if m then 4 else 2) (r + p) := by
  obtain ⟨p, hpos, hle, made⟩ := State.searchPolls_pollsMade (s := t.searchStart d m) rfl
  rw [State.searchStart_pollLimit] at hle
  refine ⟨p, hpos, hle, made.polls.trans (Nat.zero_add p), ?_⟩
  have hwrites : w + (if m then 4 else 2) = w + searchLead m + (t.searchStart d m).owedWrites := by
    cases m <;> rfl
  exact hwrites ▸ h.searchStart.trans_accounts made.calls

/-- SEARCH_FROM adds the calls of its selection without mute. -/
theorem Env.Made.searchFromProc {e : Env} {t : State} (h : e.Made t.env 0 0) (f : Int) (m : Bool) :
    ∃ p, 1 ≤ p ∧ p ≤ pollsPerStep t.pollLimit ∧ (t.searchFromProc f m).polls = p ∧
      e.Accounts (t.searchFromProc f m) (if m then 7 else 5) (2 + p) := by
  have hlimit (g : Int) : ((t.selectFrequency f false).tuneWord g).pollLimit = t.pollLimit := by
    simp [State.pollLimit]
  have hwrites : (if m then 7 else 5) = 0 + 3 + if m then 4 else 2 := by cases m <;> rfl
  rw [hwrites, ← hlimit]
  exact Env.Made.searchProc (t := (t.selectFrequency f false).tuneWord _) (h.selectFrequency (m := false)) _ m

/-! ### Every command -/

/-- The row of R263's table for `i`, met by the command that leads from `s` to `t`. -/
def RowMet (i : Instr) (s t : State) : Prop :=
  ∃ p, 1 ≤ p ∧ p ≤ pollsPerStep s.pollLimit ∧
    (0x83 ≤ i.opcode.toNat ∧ i.opcode.toNat ≤ 0x86 → p = t.polls) ∧ s.env.Accounts t (writesOf i) (readsOf p i)

/-- Only a command that searches can still be polling. -/
theorem CommandRun.phase_idle {s t : State} {op : Nat} (h : CommandRun s op t) (hop : op < 0x83 ∨ 0x86 < op) :
    t.phase = .idle := by
  cases h with
  | search | searchFrom | searchFromEdge => omega
  | _ => rfl

/-- The row of a command that does not search. -/
theorem RowMet.of_made {i : Instr} {s t : State} (h : exec i s = .next t)
    (hop : i.opcode.toNat < 0x83 ∨ 0x86 < i.opcode.toNat) (made : s.env.Made t.env (writesOf i) (readsOf 1 i)) :
    RowMet i s t :=
  ⟨1, le_rfl, pollsPerStep_pos _, by omega, made.accounts ((exec_commandRun h).phase_idle hop)⟩

theorem RowMet.of_search {i : Instr} {s t u : State} (h : (.next u : Host.Outcome State Fault Refusal) = .next t)
    (hu : ∃ p, 1 ≤ p ∧ p ≤ pollsPerStep s.pollLimit ∧ u.polls = p ∧ s.env.Accounts u (writesOf i) (readsOf p i)) :
    RowMet i s t := by
  injection h with h
  obtain ⟨p, hpos, hle, hpolls, accounts⟩ := hu
  exact h ▸ ⟨p, hpos, hle, fun _ => hpolls.symm, accounts⟩

/-- A return makes no call. -/
theorem Env.Made.of_returned {e : Env} {t u : State} {val : Val} {w r : Nat}
    (h : (.next (u.returned val) : Host.Outcome State Fault Refusal) = .next t) (hu : e.Made u.env w r) :
    e.Made t.env w r := by
  injection h with h
  exact h ▸ hu

theorem Env.Made.of_select {s t : State} {f : Int} {m : Bool}
    (h : (.next ((s.accept.selectFrequency f m).returned 0) : Host.Outcome State Fault Refusal) = .next t) :
    s.env.Made t.env (if m then 5 else 3) 2 := by
  have made : s.env.Made (s.accept.selectFrequency f m).env (0 + if m then 5 else 3) (0 + 2) :=
    Env.Made.selectFrequency (t := s.accept) (.refl s.env)
  rw [Nat.zero_add] at made
  exact .of_returned h made

theorem exec_rowMet {i : Instr} {s t : State} (h : exec i s = .next t) : RowMet i s t := by
  have start : s.env.Made s.accept.env 0 0 := .refl s.env
  cases i with
  | transmit => exact .of_made h (by simp [Instr.opcode]) (.of_returned h start.transmit)
  | receiveStatus => exact .of_made h (by simp [Instr.opcode]) (.of_returned h start.receiveStatus)
  | determineInjectionSide f => exact .of_made h (by simp [Instr.opcode]) (.of_returned h start.determineSide)
  | selectFrequency f m | selectChannel c m => exact .of_made h (by simp [Instr.opcode]) (Env.Made.of_select h)
  | search d m =>
    have made := start.searchProc d m
    simp only [Nat.zero_add] at made
    exact .of_search h made
  | searchFrom f m => exact .of_search h (start.searchFromProc _ m)
  | searchFromBeginning m | searchFromEnd m =>
    exact .of_search h (Env.Made.searchFromProc (t := s.accept.writeTxBit searchDirField _) start _ m)
  | toggleMute | toggleMuteLeft | toggleMuteRight | toggleSoftMute | toggleStandby | toggleForcedMono | toggleHcc
  | toggleSnc => exact .of_made h (by simp [Instr.opcode]) (.of_returned h start.toggle)
  | _ =>
    have hkept : t.env = s.env := (exec_commandRun h).env_kept (by simp [Instr.opcode])
    exact .of_made h (by simp [Instr.opcode]) (hkept ▸ start)

/-- A finite MAX_POLLS leaves no command polling (44_tuning_search.md R251). -/
theorem exec_phase_idle {i : Instr} {s t : State} {extra : Nat} (h : exec i s = .next t)
    (hlim : s.pollLimit = .atMost extra) : t.phase = .idle := by
  obtain ⟨hidle, -⟩ | ⟨-, hinf⟩ := (exec_commandRun h).atRest
  · exact hidle
  · rw [State.pollLimit, exec_params h, ← State.pollLimit, hlim] at hinf
    cases hinf

/-- Settles O34: the commands by `exec_rowMet`, the polls of a resting search by `searchPolls_pollsMade`; a refused
word keeps the environment. -/
theorem busCallsPerCommand : Obligations.BusCallsPerCommand := by
  refine ⟨fun i s t h => ?_, fun s hp hinf => ?_, fun w e s hdec => ⟨_, runWord_refused hdec s, ?_⟩⟩
  · obtain ⟨p, hpos, hle, hpolls, accounts⟩ := exec_rowMet h
    refine ⟨p, hpos, fun extra hlim => ⟨?_, exec_phase_idle h hlim⟩, hpolls, accounts.newCalls⟩
    rwa [hlim] at hle
  · obtain ⟨p, hpos, hle, made⟩ := State.searchPolls_pollsMade hp
    rw [hinf] at hle
    obtain rfl : p = 1 := Nat.le_antisymm hle hpos
    exact ⟨made.polls, made.calls.newCalls⟩
  · exact List.drop_length

end Sys2Proof.Machine

/-! ## The toggles (45_toggles.md R280 to R289)

All eight toggles are one operation, `State.toggled`, of the boolean they name: its next state is said once, for
every boolean. A pair of the same toggle is two writes of one bit, the second of which puts back what the bit was. -/

namespace Sys2Proof.Machine

/-! ### One toggle (45_toggles.md R280) -/

/-- The state a toggle of the boolean `m` leads to, from acceptance to return. -/
def State.toggled (s : State) (m : Mirror) : State := (s.accept.toggle m).returned 0

/-- The transmission image with the bit of `m` flipped, the way decided by the boolean (45_toggles.md R280 (b)). -/
def State.toggledTx (s : State) (m : Mirror) : Image :=
  s.tx.set m.field.byte
    (if s.mirror m then s.tx.get m.field.byte &&& ~~~m.field.mask else s.tx.get m.field.byte ||| m.field.mask)

theorem State.writeBit_not_mirror (s : State) (m : Mirror) :
    writeBit m.field (!s.mirror m) s.tx = s.toggledTx m := by
  rw [State.toggledTx]
  cases s.mirror m
  case false => exact writeBit_true m.field_oneBit s.tx
  case true => exact writeBit_false m.field_oneBit s.tx

/-- Flipping a boolean and its bit can be done before acceptance as well: the two write different fields. -/
theorem State.accept_writeMirror (s : State) (m : Mirror) (v : Bool) :
    s.accept.writeMirror m v = (s.writeMirror m v).accept := by cases m <;> rfl

theorem State.writeMirror_writeAnswerAt (s : State) (m : Mirror) (v : Bool) (calls writes : Nat) :
    (s.writeMirror m v).writeAnswerAt calls writes = s.writeAnswerAt calls writes := by
  rw [State.writeAnswerAt, State.writeMirror_env, ← State.writeAnswerAt]

/-- Everything a toggle does: the boolean and its bit are flipped and the whole image is transmitted once. -/
theorem State.toggled_eq (s : State) (m : Mirror) :
    s.toggled m = (({ s.writeMirror m (!s.mirror m) with tx := s.toggledTx m }).withCalls
      (writeCalls (s.toggledTx m) (s.writeAnswerAt 0 0))).ended (writeFault (s.writeAnswerAt 0 0)) 0 := by
  have hmirror : s.accept.mirror m = s.mirror m := by cases m <;> rfl
  have htx : (s.writeMirror m (!s.mirror m)).tx = s.toggledTx m := by
    rw [State.writeMirror_tx, State.writeBit_not_mirror]
  rw [State.toggled, State.toggle, hmirror, State.accept_writeMirror, State.accept_transmit_returned,
    State.writeMirror_writeAnswerAt, ← htx]

/-- Settles O48: `State.toggled_eq` for each of the eight. -/
theorem toggles : Obligations.Toggles :=
  ⟨⟨encodedAs_of_check fun _ => rfl, fun s => congrArg _ (s.toggled_eq .muted)⟩,
    ⟨encodedAs_of_check fun _ => rfl, fun s => congrArg _ (s.toggled_eq .mutedLeft)⟩,
    ⟨encodedAs_of_check fun _ => rfl, fun s => congrArg _ (s.toggled_eq .mutedRight)⟩,
    ⟨encodedAs_of_check fun _ => rfl, fun s => congrArg _ (s.toggled_eq .softMuted)⟩,
    ⟨encodedAs_of_check fun _ => rfl, fun s => congrArg _ (s.toggled_eq .standby)⟩,
    ⟨encodedAs_of_check fun _ => rfl, fun s => congrArg _ (s.toggled_eq .forcedMono)⟩,
    ⟨encodedAs_of_check fun _ => rfl, fun s => congrArg _ (s.toggled_eq .highCutControl)⟩,
    ⟨encodedAs_of_check fun _ => rfl, fun s => congrArg _ (s.toggled_eq .stereoNoiseCancelling)⟩⟩

/-! ### What a toggle leaves -/

theorem State.toggled_tx (s : State) (m : Mirror) : (s.toggled m).tx = writeBit m.field (!s.mirror m) s.tx := by
  rw [State.toggled_eq, State.writeBit_not_mirror]
  rfl

/-- A toggle flips its own boolean and no other (45_toggles.md R280 (g)). -/
theorem State.toggled_mirror (s : State) (m m' : Mirror) :
    (s.toggled m).mirror m' = if m' = m then !s.mirror m else s.mirror m' := by
  rw [← State.mirror_writeMirror, State.toggled_eq, State.ended_mirror]
  cases m' <;> rfl

/-- A toggle makes the calls of one write and leaves the rest of the environment (45_toggles.md R280 (d)). -/
theorem State.toggled_env (s : State) (m : Mirror) :
    (s.toggled m).env = (s.withCalls (writeCalls (s.toggled m).tx (s.writeAnswerAt 0 0))).env := by
  rw [State.toggled_tx, State.writeBit_not_mirror, State.toggled_eq]
  cases m <;> rfl

theorem State.toggled_trace (s : State) (m : Mirror) :
    (s.toggled m).env.trace = s.env.trace ++ writeCalls (s.toggled m).tx (s.writeAnswerAt 0 0) := by
  rw [State.toggled_env, State.withCalls_trace]

/-- The answers still to come are one write further on. -/
theorem State.toggled_writeAnswerAt (s : State) (m : Mirror) (calls writes : Nat) :
    (s.toggled m).writeAnswerAt calls writes = s.writeAnswerAt (1 + calls) (1 + writes) := by
  rw [State.writeAnswerAt, State.toggled_env]
  exact s.after_writeAnswerAt (writeCalls _ _) 0 calls writes

/-! ### A pair of the same toggle (45_toggles.md R280 (f)) -/

/-- An image is its bits. -/
theorem Image.eq_of_bits {im im' : Image} (h : ∀ i j, imageBit im i j = imageBit im' i j) : im = im' := by
  have hbyte (i : Fin 5) : im.get i = im'.get i := BitVec.eq_of_getLsbD_eq fun j _ => h i j
  exact Image.eq_of_bytes (hbyte 0) (hbyte 1) (hbyte 2) (hbyte 3) (hbyte 4)

/-- A one-bit field written twice and the second time as it was is the image as it was. -/
theorem writeBit_restore {fld : FieldSpec} (h : fld.OneBit) {v : Bool} (v' : Bool) {im : Image}
    (hv : v = imageBit im fld.byte fld.shift) : writeBit fld v (writeBit fld v' im) = im := by
  refine Image.eq_of_bits fun i j => ?_
  rw [imageBit_writeBit h, imageBit_writeBit h]
  split
  next hbit =>
    obtain ⟨rfl, rfl⟩ := hbit
    exact hv
  next => rfl

/-- A one-bit field written as it was not is another image. -/
theorem writeBit_not_ne {fld : FieldSpec} (h : fld.OneBit) {v : Bool} {im : Image}
    (hv : v = imageBit im fld.byte fld.shift) : writeBit fld (!v) im ≠ im := by
  intro heq
  have hbit : imageBit (writeBit fld (!v) im) fld.byte fld.shift = !v := by
    rw [imageBit_writeBit h, if_pos ⟨rfl, rfl⟩]
  rw [heq, ← hv] at hbit
  exact (Bool.eq_not_self v).mp hbit

theorem State.toggled_toggled_mirror (s : State) (m m' : Mirror) :
    ((s.toggled m).toggled m).mirror m' = s.mirror m' := by
  simp only [State.toggled_mirror, if_true, Bool.not_not]
  split
  next hm => rw [hm]
  next => rfl

/-- The second toggle puts the bit back, where the first found boolean and bit in step (10_state.md R30). -/
theorem State.toggled_toggled_tx {s : State} (hs : s.MirrorsAgree) (m : Mirror) :
    ((s.toggled m).toggled m).tx = s.tx := by
  rw [State.toggled_tx, State.toggled_mirror, if_pos rfl, Bool.not_not, State.toggled_tx]
  exact writeBit_restore m.field_oneBit _ (s.mirrorsAgree_iff.mp hs m)

theorem State.toggled_tx_ne {s : State} (hs : s.MirrorsAgree) (m : Mirror) : (s.toggled m).tx ≠ s.tx := by
  rw [State.toggled_tx]
  exact writeBit_not_ne m.field_oneBit (s.mirrorsAgree_iff.mp hs m)

/-- The eight toggle commands are the toggles of the eight booleans (45_toggles.md R289). -/
theorem exec_toggle_of_mem {i : Instr}
    (hi : i ∈ [Instr.toggleMute, .toggleMuteLeft, .toggleMuteRight, .toggleSoftMute, .toggleStandby,
      .toggleForcedMono, .toggleHcc, .toggleSnc]) :
    ∃ m : Mirror, ∀ s : State, exec i s = .next (s.toggled m) := by
  simp only [List.mem_cons, List.not_mem_nil, or_false] at hi
  obtain rfl | rfl | rfl | rfl | rfl | rfl | rfl | rfl := hi
  · exact ⟨.muted, fun _ => rfl⟩
  · exact ⟨.mutedLeft, fun _ => rfl⟩
  · exact ⟨.mutedRight, fun _ => rfl⟩
  · exact ⟨.softMuted, fun _ => rfl⟩
  · exact ⟨.standby, fun _ => rfl⟩
  · exact ⟨.forcedMono, fun _ => rfl⟩
  · exact ⟨.highCutControl, fun _ => rfl⟩
  · exact ⟨.stereoNoiseCancelling, fun _ => rfl⟩

/-- Settles O49: the pair of one boolean's toggles, its image, booleans and trace. -/
theorem togglePairsRestore : Obligations.TogglePairsRestore := by
  intro i s hi hs
  obtain ⟨m, hexec⟩ := exec_toggle_of_mem hi
  refine ⟨s.toggled m, (s.toggled m).toggled m, hexec s, hexec _, State.toggled_tx_ne hs m,
    State.toggled_toggled_tx hs m, s.toggled_toggled_mirror m, ?_⟩
  rw [State.toggled_trace, State.toggled_trace, State.toggled_toggled_tx hs, State.toggled_writeAnswerAt]

end Sys2Proof.Machine

/-! ## The faults (60_exceptions.md R300 to R314)

What one raise does, what a refused word does, and that no step stops the block. -/

namespace Sys2Proof.Machine

/-- Settles O50: `raise` is its two assignments, and the second of two raises is absorbed. -/
theorem raiseOnlySetsBits : Obligations.RaiseOnlySetsBits :=
  ⟨rfl, rfl, rfl, rfl, rfl, fun s flag => ⟨rfl, s.raise_raise flag⟩⟩

/-- The step of an idle block that refuses the word it is presented (60_exceptions.md R305). -/
theorem step_idle_refused {s : State} {w : CmdWord} {rest : List HostInput} {e : DecodeError}
    (hp : s.phase = .idle) (hin : s.env.inputs = .command w :: rest) (hdec : decode w = .error e) :
    step s = .next ((s.withInputs rest).ended (refusalFlag e).mask 0) := by
  rw [step_idle_command hp hin, runWord_refused hdec]

/-- Settles O6: a refusal is `step_idle_refused`, a reserved op is refused before its arg is looked at, and the
state a refusal leaves is idle with the next word before it. -/
theorem refusalDoesNothingElse : Obligations.RefusalDoesNothingElse := by
  refine ⟨fun s w rest hp hin => ⟨step_idle_refused hp hin, step_idle_refused hp hin⟩,
    fun op arg hr => decode_of_reserved (by simpa using hr), fun s t w w' rest e i hp hin hdec hdec' hstep => ?_⟩
  have hrefused := step_idle_refused hp hin hdec
  rw [hstep] at hrefused
  injection hrefused with ht
  have hidle : t.phase = .idle := by rw [ht]; rfl
  have hnext : t.env.inputs = .command w' :: rest := by rw [ht]; rfl
  rw [step_idle_command hidle hnext, runWord_accepted hdec']

/-! ### No step stops the block (10_state.md R45; log 10) -/

/-- A reset in the middle of a word that has a next state is a next state. -/
theorem cutOutcome_next {o : Host.Outcome State Fault Refusal} (h : ∃ u, o = .next u) (before : State) (calls : Nat) :
    ∃ t, cutOutcome before calls o = .next t := by
  obtain ⟨u, rfl⟩ := h
  exact ⟨_, rfl⟩

theorem stepIdle_next (s : State) : ∃ t, stepIdle s = .next t := by
  unfold stepIdle
  split
  case h_3 _ w rest _ => exact runWord_next w _
  case h_4 _ w calls rest _ => exact cutOutcome_next (runWord_next w _) _ calls
  all_goals exact ⟨_, rfl⟩

theorem stepPolling_next (s : State) : ∃ t, stepPolling s = .next t := by
  unfold stepPolling
  split <;> exact ⟨_, rfl⟩

/-- A block that is idle or polls has a next state: `strayPhase` is the answer in the other phases. -/
theorem step_next {s : State} (h : s.phase = .idle ∨ s.phase = .sPoll) : ∃ t, step s = .next t := by
  unfold step
  obtain hidle | hpoll := h
  · rw [hidle]; exact stepIdle_next s
  · rw [hpoll]; exact stepPolling_next s

/-- Where the invariant puts a reachable block between steps (70_reset_and_hazards.md R355). -/
theorem Reachable.resting {s : State} (h : Reachable s) :
    s.phase = .idle ∨ (s.phase = .sPoll ∧ s.pollLimit = .inf) := by
  obtain ⟨-, -, -, ⟨hphase, -⟩, -, -⟩ := h.inv
  exact hphase

/-- Settles O58: the invariant leaves a reachable block only the two phases in which a step is defined. -/
theorem neverStops : Obligations.NeverStops :=
  ⟨fun _ h => step_next (h.resting.imp_right And.left), fun _ h => h.resting, exec_next⟩

end Sys2Proof.Machine

/-! ## Which command raises which fault (60_exceptions.md R307)

First the table as an upper bound: TRANSMIT, RECEIVE_STATUS and the abort of a search raise one fault each, the other
operations none, so that the row of a command is the union over what it is made of. Then the table attained: on a bus
that answers nothing every command raises its whole row at once. -/

namespace Sys2Proof.Machine

/-- The fault bits `bits` are all among those of `row`. -/
def Within (bits row : FaultBits) : Prop := bits &&& ~~~row = 0

theorem Within.zero (row : FaultBits) : Within 0 row := BitVec.zero_and

theorem Within.or {b b' row : FaultBits} (h : Within b row) (h' : Within b' row) : Within (b ||| b') row := by
  rw [Within, BitVec.and_or_distrib_right, h, h']
  rfl

theorem within_and_iff {bits row row' : FaultBits} :
    Within bits (row &&& row') ↔ Within bits row ∧ Within bits row' := by
  rw [Within, BitVec.not_and, BitVec.and_or_distrib_left]
  exact BitVec.or_eq_zero_iff

section
variable {s : State} {row : FaultBits}

/-! ### The operations

`h` says that the faults gathered before are in the row; `hw`, `hr` and `ht` that the row has BusWriteFailed,
BusReadIncomplete and SearchTimedOut (60_exceptions.md R301 to R303). -/

theorem Within.of_write (hw : Within 0b00001 row) (ok : Bool) : Within (writeFault ok) row := by
  cases ok with
  | true => exact .zero row
  | false => exact hw

theorem Within.of_read (hr : Within 0b00010 row) (d : BusData) : Within (readFault d) row := by
  cases d with
  | five => exact .zero row
  | none | one | two | three | four => exact hr

theorem Within.transmit (h : Within s.res row) (hw : Within 0b00001 row) : Within s.transmit.res row := by
  rw [State.transmit_after]
  exact h.or (hw.of_write _)

theorem Within.receiveStatus (h : Within s.res row) (hr : Within 0b00010 row) : Within s.receiveStatus.res row := by
  rw [State.receiveStatus_after]
  exact h.or (hr.of_read _)

theorem Within.returned {val : Val} (h : Within s.res row) : Within (s.returned val).res row := h

theorem Within.writeMirror {m : Mirror} {v : Bool} (h : Within s.res row) : Within (s.writeMirror m v).res row := by
  cases m <;> exact h

theorem Within.toggle {m : Mirror} (h : Within s.res row) (hw : Within 0b00001 row) :
    Within (s.toggle m).res row := h.writeMirror.transmit hw

theorem Within.muteOn (h : Within s.res row) (hw : Within 0b00001 row) : Within s.muteOn.res row :=
  h.writeMirror.transmit hw

theorem Within.muteOff (h : Within s.res row) (hw : Within 0b00001 row) : Within s.muteOff.res row :=
  h.writeMirror.transmit hw

theorem Within.of_probe (hw : Within 0b00001 row) (hr : Within 0b00010 row) (k1 k2 : Bool) (d1 d2 : BusData) :
    Within (probeFaults k1 d1 k2 d2) row :=
  (((hw.of_write k1).or (hr.of_read d1)).or (hw.of_write k2)).or (hr.of_read d2)

theorem Within.determineSide {f : Int} (h : Within s.res row) (hw : Within 0b00001 row)
    (hr : Within 0b00010 row) : Within (s.determineSide f).res row := by
  rw [State.determineSide_after]
  exact h.or (hw.of_probe hr _ _ _ _)

theorem Within.selectUnmuted {f : Int} (h : Within s.res row) (hw : Within 0b00001 row)
    (hr : Within 0b00010 row) : Within (s.selectFrequency f false).res row := by
  rw [State.selectFrequency_after]
  exact h.or ((hw.of_probe hr _ _ _ _).or (hw.of_write _))

theorem Within.selectFrequency {f : Int} {m : Bool} (h : Within s.res row) (hw : Within 0b00001 row)
    (hr : Within 0b00010 row) : Within (s.selectFrequency f m).res row := by
  cases m with
  | false => exact h.selectUnmuted hw hr
  | true =>
    rw [State.selectFrequency_true]
    exact ((h.muteOn hw).selectUnmuted hw hr).muteOff hw

/-! ### Searching (44_tuning_search.md R250, R251, R256) -/

theorem Within.searchStart {d : Direction} {m : Bool} (h : Within s.res row) (hw : Within 0b00001 row) :
    Within (s.searchStart d m).res row := by
  have muted : Within (if m then writeFault (s.writeAnswerAt 0 0) else 0) row := by
    cases m with
    | false => exact .zero row
    | true => exact hw.of_write _
  rw [State.searchStart_after]
  exact h.or (muted.or (hw.of_write _))

theorem Within.searchClose (h : Within s.res row) (hw : Within 0b00001 row) : Within s.searchClose.res row := by
  have closed : Within (s.writeTxBit searchModeField false).transmit.res row := Within.transmit h hw
  rw [State.searchClose]
  split
  next => exact Within.muteOff closed hw
  next => exact closed

theorem Within.searchLatch (h : Within s.res row) (hw : Within 0b00001 row) : Within s.searchLatch.res row := by
  rw [State.searchLatch_eq]
  exact Within.searchClose (s := s.latched) h hw

theorem Within.searchAbort (h : Within s.res row) (hw : Within 0b00001 row) (ht : Within 0b00100 row) :
    Within s.searchAbort.res row :=
  Within.searchClose (h.or ht) hw

/-- The poll loop gives up only where MAX_POLLS is finite (60_exceptions.md R303). -/
theorem Within.pollLoop {n : Nat} (h : Within s.res row) (hw : Within 0b00001 row) (hr : Within 0b00010 row)
    (ht : s.pollLimit = .inf ∨ Within 0b00100 row) : Within (State.pollLoop n s).res row := by
  induction n generalizing s with
  | zero => exact h
  | succ n ih =>
    have polled : Within s.pollOnce.res row := by
      rw [State.pollOnce_eq]
      exact h.receiveStatus hr
    have hlim : s.pollOnce.pollLimit = s.pollLimit := by simp [State.pollLimit]
    obtain ⟨-, found⟩ | ⟨-, reached, gaveUp⟩ | ⟨-, -, pollsOn⟩ := State.pollLoop_succ_cases n s
    · rw [found]
      exact polled.searchLatch hw
    · rw [gaveUp]
      obtain hinf | htimeout := ht
      · rw [hlim, hinf] at reached
        cases reached
      · exact polled.searchAbort hw htimeout
    · rw [pollsOn]
      exact ih polled (hlim ▸ ht)

theorem Within.searchProc {d : Direction} {m : Bool} (h : Within s.res row) (hw : Within 0b00001 row)
    (hr : Within 0b00010 row) (ht : s.pollLimit = .inf ∨ Within 0b00100 row) :
    Within (s.searchProc d m).res row :=
  (h.searchStart hw).pollLoop hw hr (State.searchStart_pollLimit s d m ▸ ht)

theorem Within.searchFromProc {f : Int} {m : Bool} (h : Within s.res row) (hw : Within 0b00001 row)
    (hr : Within 0b00010 row) (ht : s.pollLimit = .inf ∨ Within 0b00100 row) :
    Within (s.searchFromProc f m).res row := by
  have hlim (g : Int) : ((s.selectFrequency f false).tuneWord g).pollLimit = s.pollLimit := by
    simp [State.pollLimit]
  exact Within.searchProc (s := (s.selectFrequency f false).tuneWord _) (h.selectFrequency hw hr) hw hr
    ((hlim _).symm ▸ ht)

end

/-! ### Every command -/

/-- The faults an accepted command of op `op` can raise in a block of this MAX_POLLS: the row of R307's table, and
without a limit no search gives up (60_exceptions.md R303). -/
def rowOf (limit : PollLimit) (op : Nat) : FaultBits :=
  match limit with
  | .inf => faultRow op &&& 0b11011
  | .atMost _ => faultRow op

theorem within_rowOf {limit : PollLimit} {op : Nat} {bits : FaultBits} (h : Within bits (faultRow op))
    (hbus : Within bits 0b11011) : Within bits (rowOf limit op) := by
  cases limit with
  | inf => exact within_and_iff.mpr ⟨h, hbus⟩
  | atMost extra => exact h

theorem timeout_within_rowOf {op : Nat} (limit : PollLimit) (h : Within 0b00100 (faultRow op)) :
    limit = .inf ∨ Within 0b00100 (rowOf limit op) := by
  cases limit with
  | inf => exact .inl rfl
  | atMost extra => exact .inr h

theorem Within.of_rowOf {limit : PollLimit} {op : Nat} {bits : FaultBits} (h : Within bits (rowOf limit op)) :
    Within bits (faultRow op) := by
  cases limit with
  | inf => exact (within_and_iff.mp h).1
  | atMost extra => exact h

theorem toggle_within_faultRow {op : Nat} (hop : 0x90 ≤ op ∧ op ≤ 0x97) : Within 0b00001 (faultRow op) := by
  rw [faultRow, if_pos (.inr hop)]
  exact rfl

/-- A command raises no fault outside its row, or refuses its stop level. -/
theorem CommandRun.res_within {s t : State} {op : Nat} (h : CommandRun s op t) (hop : op ≤ 0x97) :
    t.res = 0b10000 ∨ Within t.res (rowOf s.pollLimit op) := by
  have start : Within s.accept.res (rowOf s.pollLimit op) := .zero _
  have write (h : Within 0b00001 (faultRow op)) : Within 0b00001 (rowOf s.pollLimit op) := within_rowOf h rfl
  have read (h : Within 0b00010 (faultRow op)) : Within 0b00010 (rowOf s.pollLimit op) := within_rowOf h rfl
  have timeout := timeout_within_rowOf (op := op) s.pollLimit
  cases h with
  | refuseStopLevel => exact .inl (by rw [State.refuse_eq]; rfl)
  | answer | setPlain | setStopLevel | setSide | setWord | loadFrequency => exact .inr start
  | setMirror => exact .inr start.writeMirror.returned
  | transmit => exact .inr (start.transmit (write rfl)).returned
  | receiveStatus => exact .inr (start.receiveStatus (read rfl)).returned
  | select _ _ hsel =>
    obtain rfl | rfl := hsel <;> exact .inr (start.selectFrequency (write rfl) (read rfl)).returned
  | probe => exact .inr (start.determineSide (write rfl) (read rfl)).returned
  | search => exact .inr (start.searchProc (write rfl) (read rfl) (timeout rfl))
  | searchFrom => exact .inr (start.searchFromProc (write rfl) (read rfl) (timeout rfl))
  | searchFromEdge up f m hedge =>
    have directed : Within (s.accept.writeTxBit searchDirField up).res (rowOf s.pollLimit op) := start
    obtain rfl | rfl := hedge <;> exact .inr (directed.searchFromProc (write rfl) (read rfl) (timeout rfl))
  | toggle _ hge => exact .inr (start.toggle (write (toggle_within_faultRow ⟨hge, hop⟩))).returned

theorem runWord_reserved_res {op : Byte} {arg : Arg} {s t : State} (hr : reservedOp op.toNat = true)
    (h : runWord (CmdWord.make op arg) s = .next t) : t.res = 0b01000 := by
  rw [runWord_refused (decode_of_reserved (by simpa using hr))] at h
  injection h with h
  exact h ▸ rfl

theorem op_le_of_legal {op : Byte} (h : reservedOp op.toNat = false) : op.toNat ≤ 0x97 := by
  have hlt := op.isLt
  simp only [reservedOp, Bool.or_eq_false_iff, Bool.and_eq_false_iff, decide_eq_false_iff_not] at h
  omega

/-- A word with a legal op is refused with IllegalOperand alone, or raises faults of its row. -/
theorem runWord_res_within {op : Byte} {arg : Arg} {s t : State} (hl : reservedOp op.toNat = false)
    (h : runWord (CmdWord.make op arg) s = .next t) :
    t.res = 0b10000 ∨ Within t.res (rowOf s.pollLimit op.toNat) := by
  have hchecked : ArgChecked op arg (decode (CmdWord.make op arg)) := by
    simpa using decode_argChecked (w := CmdWord.make op arg) (by simpa using hl)
  obtain ⟨-, hdec⟩ | ⟨-, i, hdec, -, hop, -⟩ := hchecked
  · rw [runWord_refused hdec] at h
    injection h with h
    exact .inl (h ▸ rfl)
  · rw [runWord_accepted hdec] at h
    exact hop ▸ (exec_commandRun h).res_within (hop ▸ op_le_of_legal hl)

/-- Without a limit no command times out: its row has no SearchTimedOut, and IllegalOperand is another bit. -/
theorem timeout_free {res : FaultBits} {op : Nat} (h : res = 0b10000 ∨ Within res (rowOf .inf op)) :
    res &&& 0b00100 = 0 := by
  obtain rfl | hrow := h
  · rfl
  · exact (within_and_iff.mp hrow).2

/-! ### The whole row at once -/

/-- A block with MAX_POLLS = 1 on a bus that acknowledges no write and answers no read. -/
def deafBlock : State :=
  { State.resetWith { resetParams with maxPolls := some (.atMost 0) } with
    env := { Env.fresh with writeAnswers := List.replicate 7 false, readAnswers := List.replicate 3 .none } }

/-- The least arg that the command of a legal op accepts: no field set, but the stop level. -/
def leastArg (op : Byte) : Arg := if op = 0x04 then 1 else 0

/-- The `res` an outcome leaves. -/
def resOf : Host.Outcome State Fault Refusal → Option FaultBits
  | .next t => some t.res
  | .fault _ => none
  | .refused _ => none

/-- Each op's command run on that block: no write and no read of it succeeds, and a search of it times out. -/
theorem resOf_deafBlock : ∀ op : Byte, reservedOp op.toNat = false →
    resOf (runWord (CmdWord.make op (leastArg op)) deafBlock) = some (faultRow op.toNat) := by decide

theorem exists_whole_row {op : Byte} (hl : reservedOp op.toNat = false) :
    ∃ (arg : Arg) (s t : State), runWord (CmdWord.make op arg) s = .next t ∧ t.res = faultRow op.toNat := by
  obtain ⟨t, ht⟩ := runWord_next (CmdWord.make op (leastArg op)) deafBlock
  have hres := resOf_deafBlock op hl
  rw [ht] at hres
  exact ⟨_, _, t, ht, by injection hres⟩

/-- Every command has bits that must be zero (30_encoding.md R112), so the arg of ones is no command's. -/
theorem allOnes_and_mustBeZero_ne (op : Nat) : (0xFFFFFFFF : Arg) &&& mustBeZero op ≠ 0 := by
  unfold mustBeZero
  split_ifs <;> decide

theorem exists_illegalOperand {op : Byte} (hl : reservedOp op.toNat = false) :
    ∃ (arg : Arg) (s t : State), runWord (CmdWord.make op arg) s = .next t ∧ t.res = 0b10000 := by
  obtain ⟨-, -, hrefused, -⟩ := illegalWordsRefused
  obtain ⟨-, hrun⟩ := hrefused op 0xFFFFFFFF State.reset hl (.inl (allOnes_and_mustBeZero_ne op.toNat))
  exact ⟨_, _, _, hrun, rfl⟩

/-- Settles O52: IllegalCommand by the refusal of a reserved op, the rows' upper bound by `runWord_res_within`, and
every row attained by `exists_whole_row` and `exists_illegalOperand`. -/
theorem faultTable : Obligations.FaultTable := by
  refine ⟨fun op arg s => ?_, fun op hl => ⟨exists_whole_row hl, exists_illegalOperand hl⟩⟩
  obtain ⟨t, ht⟩ := runWord_next (CmdWord.make op arg) s
  refine ⟨t, ht, fun hr => ?_, fun hl => ?_, fun hinf => ?_⟩
  · exact runWord_reserved_res hr ht
  · exact (runWord_res_within hl ht).imp_right Within.of_rowOf
  · cases hop : reservedOp op.toNat with
    | true => rw [runWord_reserved_res hop ht]; rfl
    | false => exact timeout_free (hinf ▸ runWord_res_within hop ht)

end Sys2Proof.Machine

/-! ## Reset and the hazards (70_reset_and_hazards.md R340 to R355)

A reset leads to one state, whatever ran before it; what is left to say is which calls stand in the trace. Two of the
hazards come from RX keeping its image under a short read, so that what was read before decides; the third is the poll
loop of a block with MAX_POLLS = INF, a poll a step. -/

namespace Sys2Proof.Machine

/-! ### The reset values (70_reset_and_hazards.md R340) -/

theorem State.resetWith_mirror (p : Params) (m : Mirror) : (State.resetWith p).mirror m = false := by
  cases m <;> rfl

/-- Settles O8: every value is a field of `resetWith`, the booleans by `resetWith_mirror`. -/
theorem resetValues : Obligations.ResetValues := fun p =>
  ⟨rfl, rfl, State.resetWith_mirror p, rfl, rfl, rfl, rfl, rfl, rfl, rfl⟩

/-- Settles O9: `resetParams` are those parameters, and a build that does not choose MAX_POLLS has the open one. -/
theorem resetStateOfModel : Obligations.ResetStateOfModel := ⟨rfl, rfl, rfl, rfl⟩

/-! ### The hardware reset (70_reset_and_hazards.md R342) -/

section
variable {s : State} {n : Nat} {rest : List HostInput}

theorem step_idle_reset (hp : s.phase = .idle) (h : s.env.inputs = .reset n :: rest) :
    step s = .next (s.withInputs rest).hardwareReset := by
  rw [step, hp]
  simp only [stepIdle, h]

theorem step_idle_commandCut {w : CmdWord} (hp : s.phase = .idle) (h : s.env.inputs = .commandCut w n :: rest) :
    step s = cutOutcome (s.withInputs rest) n (runWord w (s.withInputs rest)) := by
  rw [step, hp]
  simp only [stepIdle, h]

/-- Either way the host asserts it, a reset of a polling search falls into its next polls. -/
theorem step_polling_reset (hp : s.phase = .sPoll) (h : s.HostResets n rest) :
    step s = .next (resetDuring (s.withInputs rest) (s.searchPolls.withInputs rest) n) := by
  rw [step, hp, ← State.searchPolls_withInputs]
  obtain h | ⟨w, h⟩ := h
  · simp only [stepPolling, h]
  · simp only [stepPolling, h]

end

/-- Settles O10: `step_idle_reset`, the reset state written out. -/
theorem hardwareReset : Obligations.HardwareReset := fun _ _ _ => step_idle_reset

/-- Settles O11: the word, or the search's next polls, would have led somewhere; `resetDuring` keeps the calls made on
the way there up to the reset, and nothing else of it. -/
theorem resetMidCommand : Obligations.ResetMidCommand := by
  refine ⟨fun s w n rest hp hin => ?_, fun _ _ _ => step_polling_reset, fun _ => rfl⟩
  obtain ⟨t, ht⟩ := runWord_next w (s.withInputs rest)
  refine ⟨t, ht, ?_⟩
  rw [step_idle_commandCut hp hin, ht]
  rfl

/-! ### A short read (70_reset_and_hazards.md R353, R354) -/

section
variable {d : BusData}

theorem readFault_of_short (h : readFault d ≠ 0) : readFault d = 0b00010 := by
  cases d with
  | five => exact absurd rfl h
  | none | one | two | three | four => rfl

theorem rxAfter_of_short (h : readFault d ≠ 0) (rx : Image) : rxAfter rx d = rx := by
  cases d with
  | five => exact absurd rfl h
  | none | one | two | three | four => rfl

/-- A short second answer shows the comparator the first one's level again, and equal levels choose LOW. -/
theorem probedSide_of_short (h : readFault d ≠ 0) (rx : Image) (d1 : BusData) : probedSide rx d1 d = .low := by
  rw [probedSide, rxAfter_of_short h, if_neg (Nat.lt_irrefl _)]

/-- BusReadIncomplete is among the faults of the probe. -/
theorem probeFaults_of_short (h : readFault d ≠ 0) (k1 : Bool) (d1 : BusData) (k2 : Bool) :
    probeFaults k1 d1 k2 d &&& 0b00010 = 0b00010 := by
  rw [probeFaults, readFault_of_short h, BitVec.and_comm, BitVec.or_comm _ 0b00010, and_or_absorb]

end

/-- Settles O37: the command's next state is `determineInjectionSide`'s, with the image of the first answer read
twice. -/
theorem staleLevelChoosesLow : Obligations.StaleLevelChoosesLow := by
  intro f s hshort
  obtain ⟨-, hprobe⟩ := determineInjectionSide
  obtain ⟨hexec, -⟩ := hprobe f s
  have hlow := probedSide_of_short hshort s.rx (s.readAnswerAt 1 0)
  refine ⟨_, hexec, hlow, ?_, probeFaults_of_short hshort _ _ _, ?_⟩
  · exact congrArg (fun rx => BitVec.ofNat 4 (levelOf rx)) (rxAfter_of_short hshort _)
  · rw [hlow]
    rfl

/-! ### The search that never ends (70_reset_and_hazards.md R355) -/

/-- With MAX_POLLS = INF a step of a search that does not see `ready` is one poll. -/
theorem State.searchPolls_waits {s : State} (hinf : s.pollLimit = .inf)
    (hready : (rxAfter s.rx (s.readAnswerAt 0 0)).b0.getLsbD 7 = false) : s.searchPolls = s.pollOnce := by
  have hlim : s.pollOnce.pollLimit = .inf := (s.iterate_pollOnce_pollLimit 1).trans hinf
  rw [State.searchPolls, hinf, pollsPerStep, State.pollLoop_pollsOn, State.pollLoop]
  · rwa [State.pollOnce_after]
  · rw [hlim]
    rfl

/-- The first poll of a search is answered after its opening writes (44_tuning_search.md R251). -/
theorem State.searchStart_readAnswerAt (s : State) (d : Direction) (m : Bool) :
    (s.searchStart d m).readAnswerAt 0 0 = s.readAnswerAt (searchLead m) 0 := by
  rw [State.searchStart_after, State.after_readAnswerAt, State.openingCalls_writes, State.openingCalls_reads]
  rfl

/-- The calls of a command that has raised no fault before them. -/
theorem State.after_of_fresh {s : State} (h : s.res = 0) (calls : List BusEvent) (bits : FaultBits) :
    s.after calls bits = { s.withCalls calls with res := bits, fault := s.fault ||| bits } := by
  rw [State.after, h, show (0 : FaultBits) ||| bits = bits from BitVec.zero_or]

/-- Settles O44: both steps end in one poll without `ready`, after the opening or from S_POLL. -/
theorem searchUnbounded : Obligations.SearchUnbounded := by
  constructor
  · intro d m s hinf a bits hready
    have hpoll : s.accept.searchProc d m = (s.accept.searchStart d m).pollOnce := by
      apply State.searchPolls_waits
      · rwa [State.searchStart_pollLimit]
      · rwa [State.searchStart_rx, State.searchStart_readAnswerAt]
    have hafter : (s.accept.searchStart d m).pollOnce =
        ({ s.accept.asked d m with rx := rxAfter s.rx a, polls := 1 } : State).after
          (s.openingCalls d m ++ readCalls a) bits := by
      rw [State.pollOnce_after, State.searchStart_readAnswerAt, State.searchStart_after]
      exact State.after_trans rfl
    rw [exec_search, hpoll, hafter, State.after_of_fresh rfl]
    rfl
  · intro s rest hp hinf hh a hready
    rw [step_polling hp hh, State.searchPolls_waits hinf hready, State.pollOnce_after]
    rfl

/-! ### The stale `ready` (70_reset_and_hazards.md R354) -/

/-- The opening of a search raises no fault but BusWriteFailed (60_exceptions.md R301). -/
theorem Within.openingFaults {row : FaultBits} (hw : Within 0b00001 row) (s : State) (m : Bool) :
    Within (s.openingFaults m) row := by
  cases m with
  | false => exact (Within.zero row).or (hw.of_write _)
  | true => exact (hw.of_write _).or (hw.of_write _)

/-- Nor does its close. -/
theorem Within.closingFaults {row : FaultBits} (hw : Within 0b00001 row) (s : State) (m : Bool)
    (calls writes : Nat) : Within (s.closingFaults m calls writes) row := by
  cases m with
  | false => exact (hw.of_write _).or (.zero row)
  | true => exact (hw.of_write _).or (hw.of_write _)

/-- A search whose one poll is short has BusReadIncomplete from it, and nothing but BusWriteFailed from its writes. -/
theorem State.searchFaults_of_short {d : BusData} (h : readFault d ≠ 0) (s : State) (m : Bool) :
    s.searchFaults m [d] &&& 0b00110 = 0b00010 := by
  have hwrite : Within 0b00001 0b11001 := rfl
  have hopen : s.openingFaults m &&& 0b00110 = 0 := hwrite.openingFaults s m
  have hclose : s.closingFaults m (searchLead m + [d].length) (searchLead m) &&& 0b00110 = 0 :=
    hwrite.closingFaults s m _ _
  have hpoll : readFaults [d] = 0b00010 := by
    rw [← readFault_of_short h]
    exact BitVec.zero_or
  rw [State.searchFaults, hpoll, BitVec.and_or_distrib_right, BitVec.and_or_distrib_right, hopen, hclose]
  rfl

/-- Settles O45: `searchFinds` on the first poll, whose answer leaves the stale image. -/
theorem staleReadyEndsSearch : Obligations.StaleReadyEndsSearch := by
  intro d m s hready hshort
  have hrx : rxAfterAll s.rx (s.pollAnswers m (0 + 1)) = s.rx := rxAfter_of_short hshort s.rx
  have hfinds := searchFinds d m s 0 (fun extra _ => extra.zero_le) (fun _ => rfl)
    (fun j hj => absurd hj j.not_lt_zero) (by rwa [hrx])
  simp only [hrx] at hfinds
  exact ⟨_, hfinds, rfl, rfl, rfl, rfl, rfl, State.searchFaults_of_short hshort s m⟩

end Sys2Proof.Machine
